-- ==== Sys2Proof/Word.lean ====
section
/-! DEFINITION. The word types of the engine. Rule R7: every value is an unsigned bit vector of a stated width and
bit 0 is the least significant bit. The arithmetic over them is in Machine/Operands.lean. -/

namespace Sys2Proof

/-- A payload, pending or output byte (R9, R41: all 256 values are valid). -/
abbrev Byte := BitVec 8

/-- A word of the 32-bit variant (R4). -/
abbrev Word32 := BitVec 32

/-- A word of the 128-bit variant, and the port width of `seed` (R4, R60). -/
abbrev Word64 := BitVec 64

/-- The running hash pair `(h1, h2)` and the digest pair `(d1, d2)` of the 128-bit variant (R4, R106). -/
abbrev Pair64 := Word64 × Word64

end Sys2Proof
end

