-- ==== Sys2Proof/Config.lean ====
section
/-! DEFINITION. What an implementation fixes (R5: `LENW`) and the free values: what the unit fields hold after a
hardware reset inside a run, which R30 and R180 leave unspecified. A free value has no body, so no proof can see
what it is (93_implementation_defined.md U4: "a proof may not use what it chose"). -/

namespace Sys2Proof

/-- The two legal values of the parameter `LENW` (R5). -/
inductive LenWidth where
  | w32
  | w64
deriving DecidableEq, Repr

/-- `LENW` as a number of bits (R5). -/
def LenWidth.bits : LenWidth → Nat
  | .w32 => 32
  | .w64 => 64

namespace Config

/-- `LENW` of the machine after reset: the default R5 gives. -/
def defaultLenw : LenWidth := .w64

/-! The free values of a hardware reset inside a run (assumption 3). The argument is the count of hardware resets
so far, so that two resets need not leave the same values. -/

opaque freePhase32 : Nat → Bool
opaque freeSeed32 : Nat → Word32
opaque freeH32 : Nat → Word32
opaque freeTotalLen32 : Nat → Word64
opaque freePend32 : Nat → List Byte
opaque freePhase128 : Nat → Bool
opaque freeSeed128 : Nat → Word64
opaque freeH1 : Nat → Word64
opaque freeH2 : Nat → Word64
opaque freeTotalLen128 : Nat → Word64
opaque freePend128 : Nat → List Byte

end Config

end Sys2Proof
end

