-- ==== Sys2Proof/Syntax.lean ====
section
/-! DEFINITION. The command record of the command port (R60), the fields of its command word (R61) and the
instructions: one constructor per row of spec/opcode_table.json, each with the operands its format reads (R63). -/

namespace Sys2Proof

/-- R60: one command record. `cmd` is the command word, `seed` the 64-bit seed operand, `len` the payload length
(`LENW` bits; carried in 64, assumption 9), `payload` the bytes `P[0]` first. -/
structure Command where
  cmd     : Byte
  seed    : Word64
  len     : Word64
  payload : List Byte
deriving DecidableEq, Repr

/-- The eight operation codes `OP` of R65. -/
inductive Op where
  | create
  | write
  | reset
  | sum
  | sumBytes
  | blockSize
  | digestSize
  | checksum
deriving DecidableEq, Repr

/-- The variant bit `V` of R61 and R62: which unit a command selects. -/
inductive Variant where
  | v32
  | v128
deriving DecidableEq, Repr

/-- The four command formats of R63. -/
inductive Format where
  | n
  | s
  | d
  | sd
deriving DecidableEq, Repr

/-- The sixteen commands of R65. A constructor holds exactly the operands its format reads (R63): a seed already
cut to the width of its variant (R64), a payload whose length is `len`. An operand a format does not read is not
here, since it is not sampled. -/
inductive Instr where
  | create32 (seed : Word32)
  | create128 (seed : Word64)
  | write32 (payload : List Byte)
  | write128 (payload : List Byte)
  | reset32
  | reset128
  | sum32
  | sum128
  | sumBytes32 (payload : List Byte)
  | sumBytes128 (payload : List Byte)
  | blockSize32
  | blockSize128
  | digestSize32
  | digestSize128
  | checksum32 (seed : Word32) (payload : List Byte)
  | checksum128 (seed : Word64) (payload : List Byte)
deriving DecidableEq, Repr

end Sys2Proof
end

