-- ==== Sys2Proof/WellFormed.lean ====
section
/-! DEFINITION. When an instruction can be presented at all: R64, "`len` is an unsigned integer
`0 <= len < 2^LENW` and the payload has exactly `len` bytes". -/

namespace Sys2Proof

/-- The payload an instruction carries; none for the formats that read none (R63). -/
def Instr.payload : Instr → List Byte
  | .create32 _ => []
  | .create128 _ => []
  | .write32 p => p
  | .write128 p => p
  | .reset32 => []
  | .reset128 => []
  | .sum32 => []
  | .sum128 => []
  | .sumBytes32 p => p
  | .sumBytes128 p => p
  | .blockSize32 => []
  | .blockSize128 => []
  | .digestSize32 => []
  | .digestSize128 => []
  | .checksum32 _ p => p
  | .checksum128 _ p => p

/-- R64: the payload is short enough that its length fits the `len` operand of `LENW` bits. Every seed and every
byte is legal (R41, R64), so this is the only check. -/
def Instr.wellFormed (w : LenWidth) (i : Instr) : Bool :=
  decide (i.payload.length < 2 ^ w.bits)

end Sys2Proof
end

