-- ==== Sys2Proof/Decode.lean ====
section
/-! DEFINITION. The decoder, total on every command record and rejecting by name (R61, R63, R64, R65, R66), and
the encoder, both from the table of R65. -/

namespace Sys2Proof

/-- Why a command record does not decode. -/
inductive DecodeError where
  /-- `RSV != 000` (R61, R66): an illegal command word. -/
  | reservedBits
  /-- `OP = 0x0` or `OP` in `0x9` to `0xF` (R66): an illegal command word. -/
  | unassignedOp
  /-- A legal word of format D or SD whose payload does not have exactly `len` bytes (R64, R186): the host broke
  the protocol, and what the engine does then is not defined (93_implementation_defined.md U3). -/
  | payloadLengthMismatch
deriving DecidableEq, Repr

/-- `cmd[7:4]` (R61). -/
def opField (cmd : Byte) : BitVec 4 := cmd.extractLsb' 4 4

/-- `cmd[3:1]` (R61). -/
def rsvField (cmd : Byte) : BitVec 3 := cmd.extractLsb' 1 3

/-- `cmd[0]` (R61). -/
def variantField (cmd : Byte) : BitVec 1 := cmd.extractLsb' 0 1

/-- The operation codes of R65. -/
def decodeOp (op : BitVec 4) : Option Op :=
  match op.toNat with
  | 1 => some .create
  | 2 => some .write
  | 3 => some .reset
  | 4 => some .sum
  | 5 => some .sumBytes
  | 6 => some .blockSize
  | 7 => some .digestSize
  | 8 => some .checksum
  | _ => none

/-- R61: `V = 0` selects `U32`, `V = 1` selects `U128`. -/
def decodeVariant (v : BitVec 1) : Variant :=
  if v = 0#1 then .v32 else .v128

/-- The command word alone: R65 and R66. All eight bits take part. -/
def decodeWord (cmd : Byte) : Except DecodeError (Op × Variant) :=
  if rsvField cmd = 0#3 then
    match decodeOp (opField cmd) with
    | some op => .ok (op, decodeVariant (variantField cmd))
    | none => .error .unassignedOp
  else .error .reservedBits

/-- The format of each operation (R63). -/
def Op.format : Op → Format
  | .create => .s
  | .write => .d
  | .reset => .n
  | .sum => .n
  | .sumBytes => .d
  | .blockSize => .n
  | .digestSize => .n
  | .checksum => .sd

/-- R63: formats S and SD read `seed`. -/
def Format.readsSeed : Format → Bool
  | .n => false
  | .s => true
  | .d => false
  | .sd => true

/-- R63: formats D and SD read `len` and `P`. -/
def Format.readsPayload : Format → Bool
  | .n => false
  | .s => false
  | .d => true
  | .sd => true

/-- R64: with `V = 0` the seed is `seed[31:0]`; `seed[63:32]` is not read. -/
def seedOperand32 (c : Command) : Word32 := c.seed.extractLsb' 0 32

/-- R64: with `V = 1` the seed is `seed[63:0]`. -/
def seedOperand128 (c : Command) : Word64 := c.seed

/-- Operand assembly (R64) for a legal word. -/
def assemble : Op → Variant → Command → Instr
  | .create, .v32, c => .create32 (seedOperand32 c)
  | .create, .v128, c => .create128 (seedOperand128 c)
  | .write, .v32, c => .write32 c.payload
  | .write, .v128, c => .write128 c.payload
  | .reset, .v32, _ => .reset32
  | .reset, .v128, _ => .reset128
  | .sum, .v32, _ => .sum32
  | .sum, .v128, _ => .sum128
  | .sumBytes, .v32, c => .sumBytes32 c.payload
  | .sumBytes, .v128, c => .sumBytes128 c.payload
  | .blockSize, .v32, _ => .blockSize32
  | .blockSize, .v128, _ => .blockSize128
  | .digestSize, .v32, _ => .digestSize32
  | .digestSize, .v128, _ => .digestSize128
  | .checksum, .v32, c => .checksum32 (seedOperand32 c) c.payload
  | .checksum, .v128, c => .checksum128 (seedOperand128 c) c.payload

/-- R64: the payload has exactly `len` bytes. -/
def Command.payloadMatches (c : Command) : Bool :=
  decide (c.payload.length = c.len.toNat)

/-- The decoder. The command word is looked at first (R120 step 1, R164); the payload length is compared with `len`
only where the format reads a payload (assumptions 8 and 10). -/
def decode (c : Command) : Except DecodeError Instr :=
  match decodeWord c.cmd with
  | .error e => .error e
  | .ok (op, v) =>
    if op.format.readsPayload && !c.payloadMatches then .error .payloadLengthMismatch
    else .ok (assemble op v c)

/-! The encoder. -/

/-- The operation of each instruction (R65). -/
def Instr.op : Instr → Op
  | .create32 _ => .create
  | .create128 _ => .create
  | .write32 _ => .write
  | .write128 _ => .write
  | .reset32 => .reset
  | .reset128 => .reset
  | .sum32 => .sum
  | .sum128 => .sum
  | .sumBytes32 _ => .sumBytes
  | .sumBytes128 _ => .sumBytes
  | .blockSize32 => .blockSize
  | .blockSize128 => .blockSize
  | .digestSize32 => .digestSize
  | .digestSize128 => .digestSize
  | .checksum32 _ _ => .checksum
  | .checksum128 _ _ => .checksum

/-- The unit each instruction selects (R62). -/
def Instr.variant : Instr → Variant
  | .create32 _ => .v32
  | .create128 _ => .v128
  | .write32 _ => .v32
  | .write128 _ => .v128
  | .reset32 => .v32
  | .reset128 => .v128
  | .sum32 => .v32
  | .sum128 => .v128
  | .sumBytes32 _ => .v32
  | .sumBytes128 _ => .v128
  | .blockSize32 => .v32
  | .blockSize128 => .v128
  | .digestSize32 => .v32
  | .digestSize128 => .v128
  | .checksum32 _ _ => .v32
  | .checksum128 _ _ => .v128

/-- The code of an operation (R65, column `OP`). -/
def Op.code : Op → BitVec 4
  | .create => 0x1#4
  | .write => 0x2#4
  | .reset => 0x3#4
  | .sum => 0x4#4
  | .sumBytes => 0x5#4
  | .blockSize => 0x6#4
  | .digestSize => 0x7#4
  | .checksum => 0x8#4

/-- The variant bit (R61). -/
def Variant.code : Variant → BitVec 1
  | .v32 => 0#1
  | .v128 => 1#1

/-- The command word `OP RSV V` of R61, with `RSV = 000`. -/
def encodeWord (op : Op) (v : Variant) : Byte :=
  op.code ++ 0#3 ++ v.code

/-- The seed part of an instruction's record; zero where the format reads none. -/
def Instr.seedPart : Instr → Word64
  | .create32 s => s.zeroExtend 64
  | .create128 s => s
  | .write32 _ => 0
  | .write128 _ => 0
  | .reset32 => 0
  | .reset128 => 0
  | .sum32 => 0
  | .sum128 => 0
  | .sumBytes32 _ => 0
  | .sumBytes128 _ => 0
  | .blockSize32 => 0
  | .blockSize128 => 0
  | .digestSize32 => 0
  | .digestSize128 => 0
  | .checksum32 s _ => s.zeroExtend 64
  | .checksum128 s _ => s

/-- The record of an instruction (R60, and section 6.1 of 95_test_vectors.md): an operand its format does not read
is zero or empty. -/
def encode (i : Instr) : Command :=
  { cmd := encodeWord i.op i.variant
    seed := i.seedPart
    len := BitVec.ofNat 64 i.payload.length
    payload := i.payload }

/-! The host's question about a row of spec/opcode_table.json. -/

/-- The record of a table row's word: `w` is the command word (every row has 8 bits) and every operand is zero or
empty, since the table gives the operands no bits (assumption 7). -/
def tableCommand (nbits w : Nat) : Command :=
  { cmd := BitVec.ofNat 8 (w % 2 ^ nbits), seed := 0, len := 0, payload := [] }

/-- The instruction the decoder reads from a row's word, or none where it refuses. -/
def decodeTableWord (nbits w : Nat) : Option Instr :=
  match decode (tableCommand nbits w) with
  | .ok i => some i
  | .error _ => none

end Sys2Proof
end

