-- ==== Sys2Proof/Machine/State.lean ====
section
/-! DEFINITION. The state of one engine (R6, R20 to R24), the responses it gives (R67, R68), what the host can do to
it (R60, R180), and the reasons a step can stop. -/

namespace Sys2Proof.Machine

/-- R22: the two values of the flag `phase`. -/
inductive Phase where
  | empty
  | accumulating
deriving DecidableEq, Repr

/-- R20, R22, R23: unit `U32`. -/
structure Unit32 where
  /-- R23: the unit has been created since the last hardware reset. -/
  valid    : Bool
  /-- R22: no rule reads it (assumption 18). -/
  phase    : Phase
  /-- The seed given at creation. -/
  seed     : Word32
  /-- Running hash: every complete block written so far, folded in. -/
  h        : Word32
  /-- Bytes written since creation or last reset, modulo `2^LENW`; carried in 64 bits (assumption 1). -/
  totalLen : Word64
  /-- Bytes written but not yet folded into `h`; storage of 4 bytes. -/
  pend     : List Byte
deriving DecidableEq, Repr

/-- R21, R22, R23: unit `U128`. -/
structure Unit128 where
  /-- R23: the unit has been created since the last hardware reset. -/
  valid    : Bool
  /-- R22: no rule reads it (assumption 18). -/
  phase    : Phase
  /-- The seed given at creation. -/
  seed     : Word64
  /-- First half of the running hash. -/
  h1       : Word64
  /-- Second half of the running hash. -/
  h2       : Word64
  /-- Bytes written since creation or last reset, modulo `2^LENW`; carried in 64 bits (assumption 1). -/
  totalLen : Word64
  /-- Bytes written but not yet folded into `h1`, `h2`; storage of 16 bytes. -/
  pend     : List Byte
deriving DecidableEq, Repr

/-- R67: the status of a response. Code 3 is never produced and has no constructor. -/
inductive Status where
  | ok
  | illegalCmd
  | notCreated
deriving DecidableEq, Repr

/-- R68: the one response of a command. -/
structure Response where
  status : Status
  value  : BitVec 128
  out    : List Byte
deriving DecidableEq, Repr

/-- What the host can do to the engine: present a command record (R60) or pulse the hardware reset input, which
lands between commands only (R182; assumption 11). -/
inductive HostEvent where
  | command (c : Command)
  | hardwareReset
deriving DecidableEq, Repr

/-- One engine, its host's pending events and the responses it has given. -/
structure State where
  /-- The parameter `LENW` of this engine (R5; assumption 1). No step changes it. -/
  lenw      : LenWidth
  u32       : Unit32
  u128      : Unit128
  /-- What the host will still do, in order; the port takes one event a step (R50, R60; assumption 5). -/
  inbox     : List HostEvent
  /-- The responses given so far, oldest first (R189; assumption 6). -/
  responses : List Response
  /-- The model's own counter of hardware resets, the argument of the free values (assumption 3). -/
  freeCount : Nat
deriving DecidableEq, Repr

/-- Why a step can stop with a fault. Both are a host that breaks the protocol of R186, to which the spec gives no
behaviour (93_implementation_defined.md U3: "the model gives no move"); no instruction raises either. -/
inductive Fault where
  /-- Raised by a step, never by a meaning: the record at the port is a legal word of format D or SD whose payload
  does not have exactly `len` bytes (R64, R186). Safe: the engine's behaviour is not defined there. -/
  | payloadLengthMismatch
  /-- Raised by a step, never by a meaning: the record's length does not fit the `LENW`-bit `len` operand
  (possible only with `LENW = 32`; R64). Safe: no such record can be presented (assumption 9). -/
  | lengthBeyondPort
deriving DecidableEq, Repr

/-- Why an instruction has no meaning. No instruction of this model raises one. -/
inductive Refusal where
  /-- An instruction of the opcode table that is not modelled. Raised by no arm of `exec` here. Safe. -/
  | notModelled (mnemonic : String)
deriving DecidableEq, Repr

/-- What a step or a meaning answers. -/
abbrev Result := Host.Outcome State Fault Refusal

/-- The engine right after hardware reset for a given `LENW`: R30 and R180 give `valid = 0` in both units and an
empty command port. R30 leaves every other field unspecified; the model names zero, the empty buffer and `Empty`
(DESIGN CHOICE, unsafe, assumption 2): no statement may rest on those. -/
def State.resetWith (w : LenWidth) : State :=
  { lenw := w
    u32 := { valid := false, phase := .empty, seed := 0, h := 0, totalLen := 0, pend := [] }
    u128 := { valid := false, phase := .empty, seed := 0, h1 := 0, h2 := 0, totalLen := 0, pend := [] }
    inbox := []
    responses := []
    freeCount := 0 }

/-- The machine right after reset, with the default `LENW = 64` of R5. -/
def State.reset : State := State.resetWith Config.defaultLenw

end Sys2Proof.Machine
end

