-- ==== Sys2Proof/Machine/Operands.lean ====
section
/-! DEFINITION. Arithmetic primitives (R8), byte order (R9, R43 to R46) and the packing of response values (R68). -/

namespace Sys2Proof.Machine

/-- R8 `rotlN(v, r)` with `0 < r < N`. -/
def rotl {n : Nat} (v : BitVec n) (r : Nat) : BitVec n := v.rotateLeft r

/-- R8 `shrN(v, s)`: logical right shift. -/
def shr {n : Nat} (v : BitVec n) (k : Nat) : BitVec n := v >>> k

/-- R8 `addN` for `N = LENW`: the byte counter advances modulo `2^LENW` (R5). -/
def addLen (w : LenWidth) (a : Word64) (n : Nat) : Word64 :=
  BitVec.ofNat 64 ((a.toNat + n) % 2 ^ w.bits)

/-- R9 `LE(b)`: the little-endian value of a byte sequence. -/
def leValue : List Byte → Nat
  | [] => 0
  | b :: bs => b.toNat + 256 * leValue bs

/-- R9 `b[i..j)`. -/
def slice (b : List Byte) (i j : Nat) : List Byte := (b.take j).drop i

/-- R43 `MemRead(space, off, 4)`. -/
def memRead32 (space : List Byte) (off : Nat) : Word32 :=
  BitVec.ofNat 32 (leValue (slice space off (off + 4)))

/-- R43 `MemRead(space, off, 8)`. -/
def memRead64 (space : List Byte) (off : Nat) : Word64 :=
  BitVec.ofNat 64 (leValue (slice space off (off + 8)))

/-- R9 `BE_32(v)`: most significant byte first. -/
def be32 (v : Word32) : List Byte :=
  [v.extractLsb' 24 8, v.extractLsb' 16 8, v.extractLsb' 8 8, v.extractLsb' 0 8]

/-- R9 `BE_64(v)`: most significant byte first. -/
def be64 (v : Word64) : List Byte :=
  [v.extractLsb' 56 8, v.extractLsb' 48 8, v.extractLsb' 40 8, v.extractLsb' 32 8,
   v.extractLsb' 24 8, v.extractLsb' 16 8, v.extractLsb' 8 8, v.extractLsb' 0 8]

/-- R68: a 32-bit digest in `value[31:0]`, zero-extended. -/
def valueOfWord (d : Word32) : BitVec 128 := d.zeroExtend 128

/-- R68: a digest pair, `d1` in `value[127:64]` and `d2` in `value[63:0]`. -/
def valueOfPair (d : Pair64) : BitVec 128 := d.1 ++ d.2

/-- R68: `zext128(len)`. -/
def valueOfLen (n : Nat) : BitVec 128 := BitVec.ofNat 128 n

/-- A payload length as the `LENW`-bit operand `len` (R64); on a well-formed instruction, the length itself
(assumption 14). -/
def lenOperand (w : LenWidth) (p : List Byte) : Word64 :=
  BitVec.ofNat 64 (p.length % 2 ^ w.bits)

/-- R67: the two status bits of the response port. -/
def statusCode : Status → BitVec 2
  | .ok => 0#2
  | .illegalCmd => 1#2
  | .notCreated => 2#2

end Sys2Proof.Machine
end

