-- ==== Sys2Proof/Machine/Datapath128.lean ====
section
/-! DEFINITION. The 128-bit data path: rules R100 to R107. Pure functions of values. -/

namespace Sys2Proof.Machine

/-- R24: the block size of `U128`, hardwired. -/
def blockSize128 : Nat := 16

/-- R24: the digest size of `U128`, hardwired. -/
def digestSize128 : Nat := 16

/-- R100 `C1_64`. -/
def c1of64 : Word64 := 0x87c37b91114253d5#64

/-- R100 `C2_64`. -/
def c2of64 : Word64 := 0x4cf5ad432745937f#64

/-- R100 `N1_64`. -/
def n1of64 : Word64 := 0x0000000052dce729#64

/-- R100 `N2_64`. -/
def n2of64 : Word64 := 0x0000000038495ab5#64

/-- R100 `F1_64`. -/
def f1of64 : Word64 := 0xff51afd7ed558ccd#64

/-- R100 `F2_64`. -/
def f2of64 : Word64 := 0xc4ceb9fe1a85ec53#64

/-- R101 `K1MIX`. -/
def k1mix (k : Word64) : Word64 :=
  let k := k * c1of64
  let k := rotl k 31
  k * c2of64

/-- R102 `K2MIX`: the multipliers of `K1MIX` in the opposite order, and rotation by 33. -/
def k2mix (k : Word64) : Word64 :=
  let k := k * c2of64
  let k := rotl k 33
  k * c1of64

/-- The loop body of R103: the `k1`/`h1` lane completes, with the old `h2`, before the `k2`/`h2` lane uses the new
`h1`. -/
def foldWords128 (h : Pair64) (k1 k2 : Word64) : Pair64 :=
  let h2 := h.2
  let h1 := h.1 ^^^ k1mix k1
  let h1 := rotl h1 27
  let h1 := h1 + h2
  let h1 := h1 * 5#64 + n1of64
  let h2 := h2 ^^^ k2mix k2
  let h2 := rotl h2 31
  let h2 := h2 + h1
  let h2 := h2 * 5#64 + n2of64
  (h1, h2)

/-- R103 `BMIX128(h1, h2, B)`: the running hash pair and the bytes consumed. -/
def bmix128 (h : Pair64) (b : List Byte) : Pair64 × Nat :=
  let nblocks := b.length / 16
  ((List.range nblocks).foldl
    (fun h i => foldWords128 h (memRead64 b (16 * i)) (memRead64 b (16 * i + 8))) h, 16 * nblocks)

/-- R104 `TAIL128(h1, h2, T)`: indices 8 to 14 form `k2`, indices 0 to 7 form `k1`. -/
def tail128 (h : Pair64) (t : List Byte) : Pair64 :=
  let n := t.length
  let h2 := if n > 8 then h.2 ^^^ k2mix (BitVec.ofNat 64 (leValue (slice t 8 n))) else h.2
  let h1 := if n > 0 then h.1 ^^^ k1mix (BitVec.ofNat 64 (leValue (slice t 0 (min n 8)))) else h.1
  (h1, h2)

/-- R105 `FMIX64`. -/
def fmix64 (k : Word64) : Word64 :=
  let k := k ^^^ shr k 33
  let k := k * f1of64
  let k := k ^^^ shr k 33
  let k := k * f2of64
  k ^^^ shr k 33

/-- R106 `FIN128(h1, h2, L)`, the half-swap included (90_conflicts.md C4). -/
def fin128 (h : Pair64) (l : Word64) : Pair64 :=
  let h1 := h.1 ^^^ l
  let h2 := h.2 ^^^ l
  let h1 := h1 + h2
  let h2 := h2 + h1
  let h1 := fmix64 h1
  let h2 := fmix64 h2
  let h1 := h1 + h2
  let h2 := h2 + h1
  (rotl h1 32, rotl h2 32)

/-- R107 `DIGEST128(s, W)`: the seed starts both halves. -/
def digest128 (w : LenWidth) (s : Word64) (b : List Byte) : Pair64 :=
  let r := bmix128 (s, s) b
  fin128 (tail128 r.1 (slice b r.2 b.length)) (lenOperand w b)

end Sys2Proof.Machine
end

