-- ==== Sys2Proof/Machine/Datapath32.lean ====
section
/-! DEFINITION. The 32-bit data path: rules R80 to R85. Pure functions of values. -/

namespace Sys2Proof.Machine

/-- R24: the block size of `U32`, hardwired. -/
def blockSize32 : Nat := 4

/-- R24: the digest size of `U32`, hardwired. -/
def digestSize32 : Nat := 4

/-- R80 `C1_32`. -/
def c1of32 : Word32 := 0xcc9e2d51#32

/-- R80 `C2_32`. -/
def c2of32 : Word32 := 0x1b873593#32

/-- R80 `N_32`. -/
def nOf32 : Word32 := 0xe6546b64#32

/-- R80 `F1_32`. -/
def f1of32 : Word32 := 0x85ebca6b#32

/-- R80 `F2_32`. -/
def f2of32 : Word32 := 0xc2b2ae35#32

/-- R81 `KMIX32`. -/
def kmix32 (k : Word32) : Word32 :=
  let k := k * c1of32
  let k := rotl k 15
  k * c2of32

/-- The loop body of R82: one block word folded into `h`. -/
def foldWord32 (h k : Word32) : Word32 :=
  let h := h ^^^ kmix32 k
  let h := rotl h 13
  h * 5#32 + nOf32

/-- R82 `BMIX32(h, B)`: the running hash and the bytes consumed. -/
def bmix32 (h : Word32) (b : List Byte) : Word32 × Nat :=
  let nblocks := b.length / 4
  ((List.range nblocks).foldl (fun h i => foldWord32 h (memRead32 b (4 * i))) h, 4 * nblocks)

/-- R83 `TAIL32(h, T)`. -/
def tail32 (h : Word32) (t : List Byte) : Word32 :=
  if t.length = 0 then h
  else h ^^^ kmix32 (BitVec.ofNat 32 (leValue t))

/-- R84 `FIN32(h, L)`: only the low 32 bits of `L` matter. -/
def fin32 (h : Word32) (l : Word64) : Word32 :=
  let h := h ^^^ l.extractLsb' 0 32
  let h := h ^^^ shr h 16
  let h := h * f1of32
  let h := h ^^^ shr h 13
  let h := h * f2of32
  h ^^^ shr h 16

/-- R85 `DIGEST32(s, W)`. -/
def digest32 (w : LenWidth) (s : Word32) (b : List Byte) : Word32 :=
  let r := bmix32 s b
  fin32 (tail32 r.1 (slice b r.2 b.length)) (lenOperand w b)

end Sys2Proof.Machine
end

