-- ==== Sys2Proof/Machine/Flags.lean ====
section
/-! DEFINITION. The two flags of a unit, `phase` (R22) and `valid` (R23). There are no other flags: no arithmetic
records one (R23, R163). -/

namespace Sys2Proof.Machine

/-- R22 and R23: `CREATE` sets `valid <- 1` and `phase <- Empty`. -/
def Unit32.flagCreated (u : Unit32) : Unit32 := { u with valid := true, phase := .empty }

/-- R22 and R23: `CREATE` sets `valid <- 1` and `phase <- Empty`. -/
def Unit128.flagCreated (u : Unit128) : Unit128 := { u with valid := true, phase := .empty }

/-- R22: every `WRITE`, also an empty one, sets `phase <- Accumulating`. -/
def Unit32.flagWritten (u : Unit32) : Unit32 := { u with phase := .accumulating }

/-- R22: every `WRITE`, also an empty one, sets `phase <- Accumulating`. -/
def Unit128.flagWritten (u : Unit128) : Unit128 := { u with phase := .accumulating }

/-- R22: `RESET` sets `phase <- Empty`; `valid` stays 1. -/
def Unit32.flagRestarted (u : Unit32) : Unit32 := { u with phase := .empty }

/-- R22: `RESET` sets `phase <- Empty`; `valid` stays 1. -/
def Unit128.flagRestarted (u : Unit128) : Unit128 := { u with phase := .empty }

/-- The flag `phase` from its bit (R22: `Empty` is 0, `Accumulating` is 1). -/
def phaseOfBit (b : Bool) : Phase := if b then .accumulating else .empty

end Sys2Proof.Machine
end

