-- ==== Sys2Proof/Machine/Ops.lean ====
section
/-! DEFINITION. The operations the meanings share: responding (R68), the two refusals (R161, R162), the `valid` check
(R120 step 3), the write algorithm (R123), and what each command does to its unit. -/

namespace Sys2Proof.Machine

/-- Replace unit `U32`. -/
def State.setU32 (u : Unit32) (s : State) : State := { s with u32 := u }

/-- Replace unit `U128`. -/
def State.setU128 (u : Unit128) (s : State) : State := { s with u128 := u }

/-- R68 `respond(status, value, out)`: the one response of a command. -/
def State.respond (r : Response) (s : State) : State := { s with responses := s.responses ++ [r] }

/-- `respond(OK, value, [])`. -/
def State.answer (v : BitVec 128) (s : State) : State :=
  s.respond { status := .ok, value := v, out := [] }

/-- `respond(OK, 0, out)`: the answer of `SUMBYTES`. -/
def State.answerBytes (b : List Byte) (s : State) : State :=
  s.respond { status := .ok, value := 0, out := b }

/-- The one operation of refusing a command (R161, R162, R167): value 0, no output bytes, no other field of the state
changes, and the engine is ready for the next command (assumption 4). -/
def State.refuse (st : Status) (s : State) : State :=
  s.respond { status := st, value := 0, out := [] }

/-- R120 step 3 for `U32`: a command that needs a created unit is refused with `NOT_CREATED` while `valid = 0`. -/
def ifCreated32 (s : State) (body : State) : Result :=
  if s.u32.valid then .next body else .next (s.refuse .notCreated)

/-- R120 step 3 for `U128`. -/
def ifCreated128 (s : State) (body : State) : Result :=
  if s.u128.valid then .next body else .next (s.refuse .notCreated)

/-- R123 steps 2 to 5 for a block size and a block mixer: the new running hash and the new pending bytes. -/
def writeBytes {H : Type} (bs : Nat) (bmix : H → List Byte → H × Nat) (h : H) (pend p : List Byte) :
    H × List Byte :=
  if pend.length + p.length < bs then (h, pend ++ p)
  else
    let t := bs - pend.length
    let filled := pend ++ slice p 0 t
    let h := (bmix h filled).1
    let r := bmix h (slice p t p.length)
    (r.1, slice p (t + r.2) p.length)

/-- R121: what `CREATE32` leaves in the unit, whatever it held before (92_eei_decisions.md D16). -/
def Unit32.create (seed : Word32) (u : Unit32) : Unit32 :=
  Unit32.flagCreated { u with seed := seed, h := seed, totalLen := 0, pend := [] }

/-- R122: what `CREATE128` leaves in the unit; the seed starts both halves. -/
def Unit128.create (seed : Word64) (u : Unit128) : Unit128 :=
  Unit128.flagCreated { u with seed := seed, h1 := seed, h2 := seed, totalLen := 0, pend := [] }

/-- R123 for `U32`. -/
def Unit32.write (w : LenWidth) (p : List Byte) (u : Unit32) : Unit32 :=
  let r := writeBytes blockSize32 bmix32 u.h u.pend p
  Unit32.flagWritten { u with totalLen := addLen w u.totalLen p.length, h := r.1, pend := r.2 }

/-- R123 for `U128`. -/
def Unit128.write (w : LenWidth) (p : List Byte) (u : Unit128) : Unit128 :=
  let r := writeBytes blockSize128 bmix128 (u.h1, u.h2) u.pend p
  Unit128.flagWritten
    { u with totalLen := addLen w u.totalLen p.length, h1 := r.1.1, h2 := r.1.2, pend := r.2 }

/-- R126: what `RESET32` leaves in the unit. -/
def Unit32.restart (u : Unit32) : Unit32 :=
  Unit32.flagRestarted { u with h := u.seed, totalLen := 0, pend := [] }

/-- R127: what `RESET128` leaves in the unit. -/
def Unit128.restart (u : Unit128) : Unit128 :=
  Unit128.flagRestarted { u with h1 := u.seed, h2 := u.seed, totalLen := 0, pend := [] }

/-- R128, R130: the digest of what `U32` has been given, on a copy of the running hash. -/
def Unit32.digest (u : Unit32) : Word32 := fin32 (tail32 u.h u.pend) u.totalLen

/-- R129, R131: the digest of what `U128` has been given, on copies of the running hash. -/
def Unit128.digest (u : Unit128) : Pair64 := fin128 (tail128 (u.h1, u.h2) u.pend) u.totalLen

end Sys2Proof.Machine
end

