-- ==== Sys2Proof/Machine/Checksum.lean ====
section
/-! DEFINITION. `CHECKSUM32` and `CHECKSUM128`: rules R150 and R151. They read and write no field of either unit. -/

namespace Sys2Proof.Machine

/-- R150. -/
def execChecksum32 (seed : Word32) (p : List Byte) (s : State) : Result :=
  let r := bmix32 seed p
  let h := tail32 r.1 (slice p r.2 p.length)
  .next (s.answer (valueOfWord (fin32 h (lenOperand s.lenw p))))

/-- R151. -/
def execChecksum128 (seed : Word64) (p : List Byte) (s : State) : Result :=
  let r := bmix128 (seed, seed) p
  let h := tail128 r.1 (slice p r.2 p.length)
  .next (s.answer (valueOfPair (fin128 h (lenOperand s.lenw p))))

end Sys2Proof.Machine
end

