-- ==== Sys2Proof/Machine/Create.lean ====
section
/-! DEFINITION. `CREATE32` and `CREATE128`: rules R121 and R122. -/

namespace Sys2Proof.Machine

/-- R121. -/
def execCreate32 (seed : Word32) (s : State) : Result :=
  .next ((s.setU32 (s.u32.create seed)).answer 0)

/-- R122. -/
def execCreate128 (seed : Word64) (s : State) : Result :=
  .next ((s.setU128 (s.u128.create seed)).answer 0)

end Sys2Proof.Machine
end

