-- ==== Sys2Proof/Machine/Restart.lean ====
section
/-! DEFINITION. The commands `RESET32` and `RESET128`: rules R126 and R127. They are not the hardware reset (R183),
which is in Machine/Fetch.lean. -/

namespace Sys2Proof.Machine

/-- R126. -/
def execReset32 (s : State) : Result :=
  ifCreated32 s ((s.setU32 s.u32.restart).answer 0)

/-- R127. -/
def execReset128 (s : State) : Result :=
  ifCreated128 s ((s.setU128 s.u128.restart).answer 0)

end Sys2Proof.Machine
end

