-- ==== Sys2Proof/Machine/Sizes.lean ====
section
/-! DEFINITION. `BLOCKSIZE32`, `BLOCKSIZE128`, `DIGESTSIZE32` and `DIGESTSIZE128`: rules R132 to R135. Answered
whether or not the unit is created. -/

namespace Sys2Proof.Machine

/-- R132. -/
def execBlockSize32 (s : State) : Result := .next (s.answer (valueOfLen blockSize32))

/-- R133. -/
def execBlockSize128 (s : State) : Result := .next (s.answer (valueOfLen blockSize128))

/-- R134. -/
def execDigestSize32 (s : State) : Result := .next (s.answer (valueOfLen digestSize32))

/-- R135. -/
def execDigestSize128 (s : State) : Result := .next (s.answer (valueOfLen digestSize128))

end Sys2Proof.Machine
end

