-- ==== Sys2Proof/Machine/Sum.lean ====
section
/-! DEFINITION. `SUM32`, `SUM128`, `SUMBYTES32` and `SUMBYTES128`: rules R128 to R131. They write no field of any
unit (R26). -/

namespace Sys2Proof.Machine

/-- R128. -/
def execSum32 (s : State) : Result :=
  ifCreated32 s (s.answer (valueOfWord s.u32.digest))

/-- R129. -/
def execSum128 (s : State) : Result :=
  ifCreated128 s (s.answer (valueOfPair s.u128.digest))

/-- R130: the payload passed through, then the digest, most significant byte first. -/
def execSumBytes32 (p : List Byte) (s : State) : Result :=
  ifCreated32 s (s.answerBytes (p ++ be32 s.u32.digest))

/-- R131: the payload passed through, then `d1`, then `d2`. -/
def execSumBytes128 (p : List Byte) (s : State) : Result :=
  ifCreated128 s (s.answerBytes (p ++ be64 s.u128.digest.1 ++ be64 s.u128.digest.2))

end Sys2Proof.Machine
end

