-- ==== Sys2Proof/Machine/Write.lean ====
section
/-! DEFINITION. `WRITE32` and `WRITE128`: rules R123 to R125. -/

namespace Sys2Proof.Machine

/-- R124. -/
def execWrite32 (p : List Byte) (s : State) : Result :=
  ifCreated32 s ((s.setU32 (s.u32.write s.lenw p)).answer (valueOfLen p.length))

/-- R125. -/
def execWrite128 (p : List Byte) (s : State) : Result :=
  ifCreated128 s ((s.setU128 (s.u128.write s.lenw p)).answer (valueOfLen p.length))

end Sys2Proof.Machine
end

