-- ==== Sys2Proof/Machine/Dispatch.lean ====
section
/-! DEFINITION. One arm per instruction. -/

namespace Sys2Proof.Machine

def exec (i : Instr) (s : State) : Host.Outcome State Fault Refusal :=
  match i with
  | .create32 seed => Sys2Proof.Machine.execCreate32 seed s
  | .create128 seed => Sys2Proof.Machine.execCreate128 seed s
  | .write32 p => Sys2Proof.Machine.execWrite32 p s
  | .write128 p => Sys2Proof.Machine.execWrite128 p s
  | .reset32 => Sys2Proof.Machine.execReset32 s
  | .reset128 => Sys2Proof.Machine.execReset128 s
  | .sum32 => Sys2Proof.Machine.execSum32 s
  | .sum128 => Sys2Proof.Machine.execSum128 s
  | .sumBytes32 p => Sys2Proof.Machine.execSumBytes32 p s
  | .sumBytes128 p => Sys2Proof.Machine.execSumBytes128 p s
  | .blockSize32 => Sys2Proof.Machine.execBlockSize32 s
  | .blockSize128 => Sys2Proof.Machine.execBlockSize128 s
  | .digestSize32 => Sys2Proof.Machine.execDigestSize32 s
  | .digestSize128 => Sys2Proof.Machine.execDigestSize128 s
  | .checksum32 seed p => Sys2Proof.Machine.execChecksum32 seed p s
  | .checksum128 seed p => Sys2Proof.Machine.execChecksum128 seed p s

end Sys2Proof.Machine
end

