-- ==== Sys2Proof/Machine/Fetch.lean ====
section
/-! DEFINITION. What the command port takes next (R50, R60, R120 step 1) and the hardware reset (R180). -/

namespace Sys2Proof.Machine

/-- R30, R180: `valid <- 0`; every other field of the unit becomes unspecified, a free value within the limits of its
storage (R20: 4 bytes, `LENW` bits; assumption 3). -/
def freeUnit32 (w : LenWidth) (n : Nat) : Unit32 :=
  { valid := false
    phase := phaseOfBit (Config.freePhase32 n)
    seed := Config.freeSeed32 n
    h := Config.freeH32 n
    totalLen := addLen w (Config.freeTotalLen32 n) 0
    pend := (Config.freePend32 n).take blockSize32 }

/-- R30, R180 for `U128` (R21: 16 bytes, `LENW` bits; assumption 3). -/
def freeUnit128 (w : LenWidth) (n : Nat) : Unit128 :=
  { valid := false
    phase := phaseOfBit (Config.freePhase128 n)
    seed := Config.freeSeed128 n
    h1 := Config.freeH1 n
    h2 := Config.freeH2 n
    totalLen := addLen w (Config.freeTotalLen128 n) 0
    pend := (Config.freePend128 n).take blockSize128 }

/-- R180: the hardware reset input. Both units are un-created; no command is in progress and no response is owed, so
nothing is answered. The responses already given stay given, and what the host will present later is the host's. -/
def State.hardwareReset (s : State) : State :=
  { s with
    u32 := freeUnit32 s.lenw s.freeCount
    u128 := freeUnit128 s.lenw s.freeCount
    freeCount := s.freeCount + 1 }

/-- Take the first event off the inbox. -/
def State.dropEvent (s : State) : State := { s with inbox := s.inbox.tail }

/-- Put a command record in front of the host's other events, so that the very next step takes it (assumption 7). -/
def State.present (c : Command) (s : State) : State := { s with inbox := .command c :: s.inbox }

/-- What the port finds when a step begins. -/
inductive Accepted where
  /-- No event: the engine is idle (R171, R181). -/
  | idle
  /-- The hardware reset input is pulsed; the state without the event. -/
  | hardwareReset (s : State)
  /-- An illegal command word (R66, R161); the state without the record. -/
  | illegal (s : State)
  /-- The host broke the protocol (R186). -/
  | violation (f : Fault)
  /-- A legal command; the state without the record. -/
  | run (i : Instr) (s : State)
deriving DecidableEq, Repr

/-- A command record at the port: decode comes first (R120, R164). -/
def acceptCommand (c : Command) (s : State) : Accepted :=
  match decode c with
  | .error .reservedBits => .illegal s
  | .error .unassignedOp => .illegal s
  | .error .payloadLengthMismatch => .violation .payloadLengthMismatch
  | .ok i => if i.wellFormed s.lenw then .run i s else .violation .lengthBeyondPort

/-- R50, R60: the port takes the host's events one at a time, in order. -/
def accept (s : State) : Accepted :=
  match s.inbox with
  | [] => .idle
  | .hardwareReset :: _ => .hardwareReset s.dropEvent
  | .command c :: _ => acceptCommand c s.dropEvent

end Sys2Proof.Machine
end

