-- ==== Sys2Proof/Machine/Step.lean ====
section
/-! DEFINITION. One step: one command is decoded, executed and answered, atomically (R27, R60), or the hardware reset
lands, or the engine is idle. -/

namespace Sys2Proof.Machine

/-- One step of the engine. -/
def step (s : State) : Host.Outcome State Fault Refusal :=
  match accept s with
  | .idle => .next s
  | .hardwareReset t => .next t.hardwareReset
  | .illegal t => .next (t.refuse .illegalCmd)
  | .violation f => .fault f
  | .run i t => exec i t

/-- The state whose next step runs the instruction of a table row's word (assumption 7). -/
def State.withFetchWord (s : State) (nbits w : Nat) : State := s.present (tableCommand nbits w)

end Sys2Proof.Machine
end

