-- ==== Sys2Proof/Machine/Port.lean ====
section
/-! DEFINITION. The beats of R69: how command records travel as a header and a payload stream, and how a response
leaves. Handshakes and clock cycles are left out (00_scope.md; assumption 13). -/

namespace Sys2Proof.Machine

/-- `cmd_op`, `cmd_seed` and `cmd_len` of R69, accepted together. -/
structure Header where
  op   : Byte
  seed : Word64
  len  : Word64
deriving DecidableEq, Repr

/-- The header of a record. -/
def headerOf (c : Command) : Header := { op := c.cmd, seed := c.seed, len := c.len }

/-- R69: how many payload beats follow a header. Exactly `len` for a legal word of format D or SD, whatever the
`valid` flags are; none for formats N and S; "an illegal command word takes none". -/
def beatsAfter (hd : Header) : Nat :=
  match decodeWord hd.op with
  | .error _ => 0
  | .ok (op, _) => if op.format.readsPayload then hd.len.toNat else 0

/-- The payload beats `din_byte` of a record: `P[0]` first (R69); none where the format takes none. -/
def dinOf (c : Command) : List Byte := c.payload.take (beatsAfter (headerOf c))

/-- Receive one record per header from the payload stream `din`: the records and the bytes left in the stream. None
where the stream ends early. -/
def receive : List Header → List Byte → Option (List Command × List Byte)
  | [], din => some ([], din)
  | hd :: hds, din =>
    let n := beatsAfter hd
    if din.length < n then none
    else
      match receive hds (din.drop n) with
      | none => none
      | some (cs, rest) =>
        some ({ cmd := hd.op, seed := hd.seed, len := hd.len, payload := din.take n } :: cs, rest)

/-- One beat of the output byte stream: `dout_byte` and `dout_last` (R69). -/
structure OutBeat where
  byte : Byte
  last : Bool
deriving DecidableEq, Repr

/-- The output beats of a response, `out[0]` first; `dout_last` marks the final byte (R69). -/
def doutOf : List Byte → List OutBeat
  | [] => []
  | [b] => [{ byte := b, last := true }]
  | b :: b' :: bs => { byte := b, last := false } :: doutOf (b' :: bs)

/-- `rsp_status` and `rsp_value` of a response (R69). -/
def rspOf (r : Response) : BitVec 2 × BitVec 128 := (statusCode r.status, r.value)

end Sys2Proof.Machine
end

