-- ==== Sys2Proof/Machine/Primitives.lean ====
section
/-! DEFINITION. The arithmetic primitives of R8 exactly as R8 writes them, over natural numbers. The data path computes
on bit vectors; the claims about it are stated in these terms. -/

namespace Sys2Proof.Machine

/-- R8 `addN(a, b) = (a + b) mod 2^N`. -/
def addN (n a b : Nat) : Nat := (a + b) % 2 ^ n

/-- R8 `mulN(a, b) = (a * b) mod 2^N`. -/
def mulN (n a b : Nat) : Nat := (a * b) % 2 ^ n

/-- R8 `shrN(v, s) = floor(v / 2^s)`. -/
def shrN (v s : Nat) : Nat := v / 2 ^ s

/-- R8 `rotlN(v, r) = ((v * 2^r) mod 2^N) + floor(v / 2^(N - r))`. -/
def rotlN (n v r : Nat) : Nat := (v * 2 ^ r) % 2 ^ n + v / 2 ^ (n - r)

/-- R8 `truncN(v) = v mod 2^N`. -/
def truncN (n v : Nat) : Nat := v % 2 ^ n

end Sys2Proof.Machine
end

