-- ==== Sys2Proof/Machine/Run.lean ====
section
/-! DEFINITION. Sequences: the commands of a run one after another (R50, R189), and engines side by side (R6, R172). -/

namespace Sys2Proof.Machine

/-- Execute a list of instructions in order, stopping at the first that gives no next state (R50). -/
def execAll : List Instr → State → Result
  | [], s => .next s
  | i :: is, s =>
    match exec i s with
    | .next t => execAll is t
    | .fault f => .fault f
    | .refused r => .refused r

/-- R6, R172: `NINST` engines side by side are a list of engine states; engine `k` takes one step and no other
engine is touched. None where there is no engine `k` or its step stops (assumption 12). -/
def bankStep (k : Nat) (b : List State) : Option (List State) :=
  match b[k]? with
  | none => none
  | some s =>
    match step s with
    | .next t => some (b.set k t)
    | .fault _ => none
    | .refused _ => none

end Sys2Proof.Machine
end

