-- ==== Sys2Proof/Safety.lean ====
section
/-! DEFINITION. What counts as a good state and a safe run, in the terms the claims use. -/

namespace Sys2Proof.Machine

/-- R165: no refusal has been recorded. A claim about a host without bugs takes this as a premise. -/
def noRefusalRecorded (s : State) : Bool := s.responses.all (fun r => decide (r.status = .ok))

/-- R20, R25 items 1 and 4 for `U32`: the counter has `LENW` bits and the buffer fits its storage at all times; of a
created unit, the buffer is shorter than a block and its length is the counter modulo the block size. -/
abbrev Unit32.Inv (w : LenWidth) (u : Unit32) : Prop :=
  u.totalLen.toNat < 2 ^ w.bits ∧ u.pend.length ≤ 4 ∧
    (u.valid = true → u.pend.length < 4 ∧ u.totalLen.toNat % 4 = u.pend.length)

/-- R21, R25 items 1 and 4 for `U128`. -/
abbrev Unit128.Inv (w : LenWidth) (u : Unit128) : Prop :=
  u.totalLen.toNat < 2 ^ w.bits ∧ u.pend.length ≤ 16 ∧
    (u.valid = true → u.pend.length < 16 ∧ u.totalLen.toNat % 16 = u.pend.length)

/-- R68: a refusal carries value 0 and no output bytes. -/
abbrev Response.Inv (r : Response) : Prop := r.status ≠ .ok → r.value = 0 ∧ r.out = []

/-- The invariant between commands. -/
abbrev State.Inv (s : State) : Prop :=
  s.u32.Inv s.lenw ∧ s.u128.Inv s.lenw ∧ ∀ r ∈ s.responses, r.Inv

/-- An event a careful host sends once both units exist: a record that decodes to an instruction whose payload the
port can carry; no hardware reset, no illegal word, no broken protocol (R184, R186). -/
def HostEvent.careful (w : LenWidth) : HostEvent → Bool
  | .hardwareReset => false
  | .command c =>
    match decode c with
    | .ok i => i.wellFormed w
    | .error _ => false

/-- A safe state: both units are created, no refusal is recorded and the host's remaining events are careful. -/
abbrev State.Safe (s : State) : Prop :=
  s.u32.valid = true ∧ s.u128.valid = true ∧ noRefusalRecorded s = true ∧
    ∀ e ∈ s.inbox, e.careful s.lenw = true

end Sys2Proof.Machine
end

