-- ==== Sys2Proof/Certificates/Slice0/Obligations.lean ====
section
/-! DEFINITION. The statements for the provers. There is no addressable memory in this engine (R40, R49): where a
frame would speak of memory, the pending buffers and every other field stand in the record equalities below. -/

open Sys2Proof Sys2Proof.Machine

/-! ## Reset -/

/-- R180, R30 and the default of R5. The other fields are the model's choice (assumption 2) and are not stated. -/
def Obligations.ResetLeavesBothUnitsUncreated : Prop :=
  State.reset.u32.valid = false ∧ State.reset.u128.valid = false ∧
    State.reset.inbox = [] ∧ State.reset.responses = [] ∧ State.reset.lenw = .w64

/-- R180: the hardware reset input. Nothing is said of the other unit fields, which become unspecified. -/
def Obligations.HardwareResetUncreatesBothUnits : Prop :=
  ∀ (s : State) (rest : List HostEvent), s.inbox = .hardwareReset :: rest →
    ∃ t, step s = .next t ∧ t.u32.valid = false ∧ t.u128.valid = false ∧
      t.inbox = rest ∧ t.responses = s.responses ∧ t.lenw = s.lenw

/-- R182, R183: after a hardware reset nothing of what the units held can be seen, in this or any later step. It rests
on the model's free values being read from the reset counter alone (assumption 3). -/
def Obligations.HardwareResetForgetsTheUnits : Prop :=
  ∀ (s : State) (u : Unit32) (v : Unit128) (rest : List HostEvent) (n : Nat),
    Host.Core.run core (n + 1) { s with u32 := u, u128 := v, inbox := .hardwareReset :: rest } =
      Host.Core.run core (n + 1) { s with inbox := .hardwareReset :: rest }

/-! ## The command port and the decoder -/

/-- R27, R60, R120: a record at the port that decodes to a well-formed instruction is executed at the state without
that record. -/
def Obligations.StepRunsTheDecodedInstruction : Prop :=
  ∀ (s : State) (c : Command) (rest : List HostEvent) (i : Instr),
    s.inbox = .command c :: rest → decode c = .ok i → i.wellFormed s.lenw = true →
      step s = exec i { s with inbox := rest }

/-- R161, R164: every command word other than the sixteen of R65, whatever its operands and whatever the `valid`
flags are. No payload beats follow its header (R69). -/
def Obligations.IllegalWordsAreAnsweredAndChangeNothing : Prop :=
  ∀ (s : State) (c : Command) (rest : List HostEvent), s.inbox = .command c :: rest →
    c.cmd ∉ [0x10#8, 0x11#8, 0x20#8, 0x21#8, 0x30#8, 0x31#8, 0x40#8, 0x41#8,
      0x50#8, 0x51#8, 0x60#8, 0x61#8, 0x70#8, 0x71#8, 0x80#8, 0x81#8] →
    (step s = .next { s with
      inbox := rest
      responses := s.responses ++ [{ status := .illegalCmd, value := 0, out := [] }] }) ∧
    beatsAfter (headerOf c) = 0

/-- R65, R63, R64: the sixteen words, each with the operands its format reads. -/
def Obligations.SixteenWordsDecodeWithTheirOperands : Prop :=
  ∀ c : Command,
    (c.cmd = 0x10#8 → decode c = .ok (.create32 (c.seed.extractLsb' 0 32))) ∧
    (c.cmd = 0x11#8 → decode c = .ok (.create128 c.seed)) ∧
    (c.cmd = 0x20#8 → c.payload.length = c.len.toNat → decode c = .ok (.write32 c.payload)) ∧
    (c.cmd = 0x21#8 → c.payload.length = c.len.toNat → decode c = .ok (.write128 c.payload)) ∧
    (c.cmd = 0x30#8 → decode c = .ok .reset32) ∧
    (c.cmd = 0x31#8 → decode c = .ok .reset128) ∧
    (c.cmd = 0x40#8 → decode c = .ok .sum32) ∧
    (c.cmd = 0x41#8 → decode c = .ok .sum128) ∧
    (c.cmd = 0x50#8 → c.payload.length = c.len.toNat → decode c = .ok (.sumBytes32 c.payload)) ∧
    (c.cmd = 0x51#8 → c.payload.length = c.len.toNat → decode c = .ok (.sumBytes128 c.payload)) ∧
    (c.cmd = 0x60#8 → decode c = .ok .blockSize32) ∧
    (c.cmd = 0x61#8 → decode c = .ok .blockSize128) ∧
    (c.cmd = 0x70#8 → decode c = .ok .digestSize32) ∧
    (c.cmd = 0x71#8 → decode c = .ok .digestSize128) ∧
    (c.cmd = 0x80#8 → c.payload.length = c.len.toNat →
      decode c = .ok (.checksum32 (c.seed.extractLsb' 0 32) c.payload)) ∧
    (c.cmd = 0x81#8 → c.payload.length = c.len.toNat → decode c = .ok (.checksum128 c.seed c.payload))

/-- R66: "every 8-bit word is either one of the sixteen of rule R65 or illegal"; 240 words are illegal. -/
def Obligations.ExactlySixteenWordsAreLegal : Prop :=
  (∀ w : Byte, (∃ r, decodeWord w = .ok r) ↔
    w ∈ [0x10#8, 0x11#8, 0x20#8, 0x21#8, 0x30#8, 0x31#8, 0x40#8, 0x41#8,
      0x50#8, 0x51#8, 0x60#8, 0x61#8, 0x70#8, 0x71#8, 0x80#8, 0x81#8]) ∧
  ((List.range 256).filter (fun n => (decodeWord (BitVec.ofNat 8 n)).toOption.isNone)).length = 240

/-- R63, R64: an operand a format does not read, and `seed[63:32]` with `V = 0`, affect neither the state nor the
response. -/
def Obligations.UnreadOperandsChangeNothing : Prop :=
  ∀ (s : State) (rest : List HostEvent) (c c' : Command), c.cmd = c'.cmd →
    (c.cmd ∈ [0x11#8, 0x81#8] → c.seed = c'.seed) →
    (c.cmd ∈ [0x10#8, 0x80#8] → c.seed.extractLsb' 0 32 = c'.seed.extractLsb' 0 32) →
    (c.cmd ∈ [0x20#8, 0x21#8, 0x50#8, 0x51#8, 0x80#8, 0x81#8] →
      c.len = c'.len ∧ c.payload = c'.payload) →
    step { s with inbox := .command c :: rest } = step { s with inbox := .command c' :: rest }

/-- R60, R61, R64, R65: no bit of an instruction is lost between the encoder and the decoder. -/
def Obligations.DecodeOfEncodeIsTheInstruction : Prop :=
  ∀ i : Instr, i.wellFormed .w64 = true → decode (encode i) = .ok i

/-- R61, R63, R64: the record of a decoded instruction has the word it was decoded from and the operands that were
read. -/
def Obligations.EncodeOfDecodeRestoresWhatWasRead : Prop :=
  ∀ (c : Command) (i : Instr), decode c = .ok i →
    (encode i).cmd = c.cmd ∧
    (c.cmd ∈ [0x11#8, 0x81#8] → (encode i).seed = c.seed) ∧
    (c.cmd ∈ [0x10#8, 0x80#8] → (encode i).seed = (c.seed.extractLsb' 0 32).zeroExtend 64) ∧
    (c.cmd ∈ [0x20#8, 0x21#8, 0x50#8, 0x51#8, 0x80#8, 0x81#8] →
      (encode i).len = c.len ∧ (encode i).payload = c.payload)

/-- Section 6.1 and 6.2 of 95_test_vectors.md: a few records written out. -/
def Obligations.RecordsWrittenOutDecode : Prop :=
  decode { cmd := 0b00010000#8, seed := 0x2A, len := 0, payload := [] } = .ok (.create32 0x2A) ∧
  decode { cmd := 0b00010001#8, seed := 0x2A, len := 0, payload := [] } = .ok (.create128 0x2A) ∧
  decode { cmd := 0b00100000#8, seed := 0, len := 3, payload := [0x68, 0x65, 0x6C] } =
    .ok (.write32 [0x68, 0x65, 0x6C]) ∧
  decode { cmd := 0b00110001#8, seed := 0, len := 0, payload := [] } = .ok .reset128 ∧
  decode { cmd := 0b01000000#8, seed := 0, len := 0, payload := [] } = .ok .sum32 ∧
  decode { cmd := 0b01010000#8, seed := 0, len := 2, payload := [0xAA, 0xBB] } =
    .ok (.sumBytes32 [0xAA, 0xBB]) ∧
  decode { cmd := 0b01100001#8, seed := 0, len := 0, payload := [] } = .ok .blockSize128 ∧
  decode { cmd := 0b01110000#8, seed := 0, len := 0, payload := [] } = .ok .digestSize32 ∧
  decode { cmd := 0b10000000#8, seed := 0xDEADBEEF0000002A, len := 1, payload := [0x68] } =
    .ok (.checksum32 0x2A [0x68]) ∧
  decode { cmd := 0b01000011#8, seed := 0, len := 0, payload := [] } = .error .reservedBits ∧
  decode { cmd := 0b10010000#8, seed := 0, len := 0, payload := [] } = .error .unassignedOp

/-- R69: exactly `len` payload beats follow a legal word of format D or SD, created unit or not, none follow any other
word, and so the payload stream stays in step with the records. -/
def Obligations.PayloadStreamStaysInStep : Prop :=
  (∀ hd : Header, beatsAfter hd =
    if hd.op ∈ [0x20#8, 0x21#8, 0x50#8, 0x51#8, 0x80#8, 0x81#8] then hd.len.toNat else 0) ∧
  (∀ (cs : List Command) (rest : List Byte),
    (∀ c ∈ cs, c.payload.length = beatsAfter (headerOf c)) →
      receive (cs.map headerOf) ((cs.map dinOf).flatten ++ rest) = some (cs, rest))

/-- R69: `out` leaves one byte a beat, `out[0]` first, and `dout_last` marks the final byte and no other. -/
def Obligations.OutputBeatsMarkOnlyTheFinalByte : Prop :=
  ∀ b : List Byte, (doutOf b).map OutBeat.byte = b ∧
    ∀ (k : Nat) (beat : OutBeat), (doutOf b)[k]? = some beat → (beat.last = true ↔ k + 1 = b.length)

/-! ## The streaming commands -/

/-- R121, R122, R31: every field of the created unit; the other unit and everything else unchanged. -/
def Obligations.CreateStartsTheUnitFromTheSeed : Prop :=
  (∀ (s : State) (seed : Word32), exec (.create32 seed) s = .next { s with
    u32 := { valid := true, phase := .empty, seed := seed, h := seed, totalLen := 0, pend := [] }
    responses := s.responses ++ [{ status := .ok, value := 0, out := [] }] }) ∧
  (∀ (s : State) (seed : Word64), exec (.create128 seed) s = .next { s with
    u128 := { valid := true, phase := .empty, seed := seed, h1 := seed, h2 := seed, totalLen := 0, pend := [] }
    responses := s.responses ++ [{ status := .ok, value := 0, out := [] }] })

/-- R123, R124: the five steps, for `U32`. -/
def Obligations.Write32TakesTheFiveSteps : Prop :=
  ∀ (s : State) (p : List Byte), s.u32.valid = true →
    (s.u32.pend.length + p.length < 4 → exec (.write32 p) s = .next { s with
      u32 := { s.u32 with
        phase := .accumulating
        totalLen := BitVec.ofNat 64 ((s.u32.totalLen.toNat + p.length) % 2 ^ s.lenw.bits)
        pend := s.u32.pend ++ p }
      responses := s.responses ++ [{ status := .ok, value := BitVec.ofNat 128 p.length, out := [] }] }) ∧
    (4 ≤ s.u32.pend.length + p.length →
      ∀ (t : Nat) (a b : Word32 × Nat), t = 4 - s.u32.pend.length →
        a = bmix32 s.u32.h (s.u32.pend ++ p.take t) → b = bmix32 a.1 (p.drop t) →
        exec (.write32 p) s = .next { s with
          u32 := { s.u32 with
            phase := .accumulating
            h := b.1
            totalLen := BitVec.ofNat 64 ((s.u32.totalLen.toNat + p.length) % 2 ^ s.lenw.bits)
            pend := p.drop (t + b.2) }
          responses := s.responses ++ [{ status := .ok, value := BitVec.ofNat 128 p.length, out := [] }] })

/-- R123, R125: the five steps, for `U128`. -/
def Obligations.Write128TakesTheFiveSteps : Prop :=
  ∀ (s : State) (p : List Byte), s.u128.valid = true →
    (s.u128.pend.length + p.length < 16 → exec (.write128 p) s = .next { s with
      u128 := { s.u128 with
        phase := .accumulating
        totalLen := BitVec.ofNat 64 ((s.u128.totalLen.toNat + p.length) % 2 ^ s.lenw.bits)
        pend := s.u128.pend ++ p }
      responses := s.responses ++ [{ status := .ok, value := BitVec.ofNat 128 p.length, out := [] }] }) ∧
    (16 ≤ s.u128.pend.length + p.length →
      ∀ (t : Nat) (a b : Pair64 × Nat), t = 16 - s.u128.pend.length →
        a = bmix128 (s.u128.h1, s.u128.h2) (s.u128.pend ++ p.take t) → b = bmix128 a.1 (p.drop t) →
        exec (.write128 p) s = .next { s with
          u128 := { s.u128 with
            phase := .accumulating
            h1 := b.1.1
            h2 := b.1.2
            totalLen := BitVec.ofNat 64 ((s.u128.totalLen.toNat + p.length) % 2 ^ s.lenw.bits)
            pend := p.drop (t + b.2) }
          responses := s.responses ++ [{ status := .ok, value := BitVec.ofNat 128 p.length, out := [] }] })

/-- R25 item 3 across one `WRITE32`: the hash takes in every complete block of the pending bytes followed by the
payload, and what is left over is pending. -/
def Obligations.Write32FoldsEveryCompleteBlock : Prop :=
  ∀ (s : State) (p w : List Byte), s.u32.valid = true → s.u32.pend.length < 4 → w = s.u32.pend ++ p →
    ∃ t, exec (.write32 p) s = .next t ∧
      t.u32.h = (bmix32 s.u32.h w).1 ∧ t.u32.pend = w.drop (4 * (w.length / 4)) ∧
      t.u32.pend.length < 4 ∧ t.u32.seed = s.u32.seed ∧ t.u128 = s.u128 ∧ t.inbox = s.inbox

/-- R25 item 3 across one `WRITE128`. -/
def Obligations.Write128FoldsEveryCompleteBlock : Prop :=
  ∀ (s : State) (p w : List Byte), s.u128.valid = true → s.u128.pend.length < 16 → w = s.u128.pend ++ p →
    ∃ t, exec (.write128 p) s = .next t ∧
      (t.u128.h1, t.u128.h2) = (bmix128 (s.u128.h1, s.u128.h2) w).1 ∧
      t.u128.pend = w.drop (16 * (w.length / 16)) ∧
      t.u128.pend.length < 16 ∧ t.u128.seed = s.u128.seed ∧ t.u32 = s.u32 ∧ t.inbox = s.inbox

/-- R5: the byte counters advance modulo `2^LENW`, for both values of `LENW`. -/
def Obligations.ByteCountersWrap : Prop :=
  ∀ (s : State) (p : List Byte),
    (s.u32.valid = true → ∃ t, exec (.write32 p) s = .next t ∧
      t.u32.totalLen.toNat = (s.u32.totalLen.toNat + p.length) % 2 ^ s.lenw.bits) ∧
    (s.u128.valid = true → ∃ t, exec (.write128 p) s = .next t ∧
      t.u128.totalLen.toNat = (s.u128.totalLen.toNat + p.length) % 2 ^ s.lenw.bits)

/-- R162, R120 step 3: the eight commands that need a created unit are refused while it has `valid = 0`, and nothing
but the response happens; the other eight are answered with `OK` whatever the flags are. -/
def Obligations.UncreatedUnitsRefuseAndChangeNothing : Prop :=
  (∀ (s t : State) (p : List Byte), s.u32.valid = false →
    t = { s with responses := s.responses ++ [{ status := .notCreated, value := 0, out := [] }] } →
      exec (.write32 p) s = .next t ∧ exec .reset32 s = .next t ∧ exec .sum32 s = .next t ∧
        exec (.sumBytes32 p) s = .next t) ∧
  (∀ (s t : State) (p : List Byte), s.u128.valid = false →
    t = { s with responses := s.responses ++ [{ status := .notCreated, value := 0, out := [] }] } →
      exec (.write128 p) s = .next t ∧ exec .reset128 s = .next t ∧ exec .sum128 s = .next t ∧
        exec (.sumBytes128 p) s = .next t) ∧
  (∀ (s : State) (a : Word32) (b : Word64) (p : List Byte),
    ∀ i ∈ [Instr.create32 a, .create128 b, .blockSize32, .blockSize128, .digestSize32, .digestSize128,
        .checksum32 a p, .checksum128 b p],
      ∃ t r, exec i s = .next t ∧ t.responses = s.responses ++ [r] ∧ r.status = .ok)

/-- R126, R127, R32: what `RESET` leaves in a created unit; the seed and `valid` stay. -/
def Obligations.ResetRestartsTheUnitFromItsSeed : Prop :=
  (∀ s : State, s.u32.valid = true → exec .reset32 s = .next { s with
    u32 := { s.u32 with
      valid := true, phase := .empty, h := s.u32.seed, totalLen := 0, pend := [] }
    responses := s.responses ++ [{ status := .ok, value := 0, out := [] }] }) ∧
  (∀ s : State, s.u128.valid = true → exec .reset128 s = .next { s with
    u128 := { s.u128 with
      valid := true, phase := .empty, h1 := s.u128.seed, h2 := s.u128.seed, totalLen := 0, pend := [] }
    responses := s.responses ++ [{ status := .ok, value := 0, out := [] }] })

/-- R128, R129: the digest of a copy of the running hash; nothing but the response is written. -/
def Obligations.SumReturnsTheDigestOfACopy : Prop :=
  (∀ s : State, s.u32.valid = true → exec .sum32 s = .next { s with
    responses := s.responses ++ [{
      status := .ok
      value := (fin32 (tail32 s.u32.h s.u32.pend) s.u32.totalLen).zeroExtend 128
      out := [] }] }) ∧
  (∀ (s : State) (d : Pair64), s.u128.valid = true →
    d = fin128 (tail128 (s.u128.h1, s.u128.h2) s.u128.pend) s.u128.totalLen →
    exec .sum128 s = .next { s with
      responses := s.responses ++ [{ status := .ok, value := d.1 ++ d.2, out := [] }] })

/-- R130, R131, R46: the payload passed through, then the digest bytes, most significant byte first, `d1` before
`d2`; no field of a unit is written. -/
def Obligations.SumBytesAppendsTheDigestBigEndian : Prop :=
  (∀ (s : State) (p : List Byte) (d : Word32), s.u32.valid = true →
    d = fin32 (tail32 s.u32.h s.u32.pend) s.u32.totalLen →
    ∃ b3 b2 b1 b0 : Byte, d = b3 ++ b2 ++ b1 ++ b0 ∧
      exec (.sumBytes32 p) s = .next { s with
        responses := s.responses ++ [{ status := .ok, value := 0, out := p ++ [b3, b2, b1, b0] }] }) ∧
  (∀ (s : State) (p : List Byte) (d : Pair64), s.u128.valid = true →
    d = fin128 (tail128 (s.u128.h1, s.u128.h2) s.u128.pend) s.u128.totalLen →
    ∃ b7 b6 b5 b4 b3 b2 b1 b0 c7 c6 c5 c4 c3 c2 c1 c0 : Byte,
      d.1 = b7 ++ b6 ++ b5 ++ b4 ++ b3 ++ b2 ++ b1 ++ b0 ∧
      d.2 = c7 ++ c6 ++ c5 ++ c4 ++ c3 ++ c2 ++ c1 ++ c0 ∧
      exec (.sumBytes128 p) s = .next { s with
        responses := s.responses ++ [{ status := .ok, value := 0, out := p ++
          [b7, b6, b5, b4, b3, b2, b1, b0, c7, c6, c5, c4, c3, c2, c1, c0] }] })

/-- R132 to R135: the constants, in every state. -/
def Obligations.SizesAreAnsweredInEveryState : Prop :=
  ∀ s : State,
    (∀ i ∈ [Instr.blockSize32, .digestSize32], exec i s = .next { s with
      responses := s.responses ++ [{ status := .ok, value := 4, out := [] }] }) ∧
    (∀ i ∈ [Instr.blockSize128, .digestSize128], exec i s = .next { s with
      responses := s.responses ++ [{ status := .ok, value := 16, out := [] }] })

/-- R150, R151: the one-shot digest, in every state; nothing but the response is written. -/
def Obligations.ChecksumReturnsTheDigestAndTouchesNothing : Prop :=
  (∀ (s : State) (seed : Word32) (p : List Byte), p.length < 2 ^ s.lenw.bits →
    exec (.checksum32 seed p) s = .next { s with
      responses := s.responses ++ [{
        status := .ok
        value := (fin32 (tail32 (bmix32 seed p).1 (p.drop (4 * (p.length / 4))))
          (BitVec.ofNat 64 p.length)).zeroExtend 128
        out := [] }] }) ∧
  (∀ (s : State) (seed : Word64) (p : List Byte) (d : Pair64), p.length < 2 ^ s.lenw.bits →
    d = fin128 (tail128 (bmix128 (seed, seed) p).1 (p.drop (16 * (p.length / 16)))) (BitVec.ofNat 64 p.length) →
    exec (.checksum128 seed p) s = .next { s with
      responses := s.responses ++ [{ status := .ok, value := d.1 ++ d.2, out := [] }] })

/-! ## The data path -/

/-- R81 with the primitives of R8 written out over natural numbers. -/
def Obligations.Kmix32MultipliesRotatesMultiplies : Prop :=
  ∀ (k : Word32) (a b : Nat), a = mulN 32 k.toNat 0xcc9e2d51 → b = rotlN 32 a 15 →
    (kmix32 k).toNat = mulN 32 b 0x1b873593

/-- R82: complete blocks in increasing order, each folded from the hash the one before left; the rest is not read. -/
def Obligations.Bmix32FoldsBlocksInOrder : Prop :=
  (∀ (h : Word32) (b : List Byte), (bmix32 h b).2 = 4 * (b.length / 4)) ∧
  (∀ (h : Word32) (b : List Byte), b.length < 4 → bmix32 h b = (h, 0)) ∧
  (∀ (h k : Word32) (b0 b1 b2 b3 : Byte) (rest : List Byte), k = b3 ++ b2 ++ b1 ++ b0 →
    (bmix32 h (b0 :: b1 :: b2 :: b3 :: rest)).1 =
      (bmix32 ((h ^^^ kmix32 k).rotateLeft 13 * 5 + 0xe6546b64) rest).1)

/-- R83, R45: the bytes present, each in its place, zeros above them. -/
def Obligations.Tail32FoldsTheBytesPresent : Prop :=
  ∀ (h k : Word32) (t : List Byte), t.length ≤ 3 →
    (∀ j < 4, k.extractLsb' (8 * j) 8 = t.getD j 0) →
      tail32 h t = if t = [] then h else h ^^^ kmix32 k

/-- R84 with the primitives of R8 written out over natural numbers; `L` counts only modulo `2^32`. -/
def Obligations.Fin32MixesTheLengthAndAvalanches : Prop :=
  ∀ (h : Word32) (l : Word64) (a b c d e : Nat), a = h.toNat ^^^ truncN 32 l.toNat →
    b = a ^^^ shrN a 16 → c = mulN 32 b 0x85ebca6b → d = c ^^^ shrN c 13 →
    e = mulN 32 d 0xc2b2ae35 → (fin32 h l).toNat = e ^^^ shrN e 16

/-- R101, R102 with the primitives of R8 written out: the two lanes differ in the order of the multipliers and in the
rotation. -/
def Obligations.K1mixAndK2mixMultiplyRotateMultiply : Prop :=
  (∀ (k : Word64) (a b : Nat), a = mulN 64 k.toNat 0x87c37b91114253d5 → b = rotlN 64 a 31 →
    (k1mix k).toNat = mulN 64 b 0x4cf5ad432745937f) ∧
  (∀ (k : Word64) (a b : Nat), a = mulN 64 k.toNat 0x4cf5ad432745937f → b = rotlN 64 a 33 →
    (k2mix k).toNat = mulN 64 b 0x87c37b91114253d5)

/-- R103, R44: complete blocks in increasing order; the first lane uses the old `h2`, the second the new `h1`. -/
def Obligations.Bmix128FoldsBlocksInOrder : Prop :=
  (∀ (h : Pair64) (b : List Byte), (bmix128 h b).2 = 16 * (b.length / 16)) ∧
  (∀ (h : Pair64) (b : List Byte), b.length < 16 → bmix128 h b = (h, 0)) ∧
  (∀ (h1 h2 k1 k2 n1 n2 : Word64) (blk rest : List Byte), blk.length = 16 →
    (∀ j < 8, k1.extractLsb' (8 * j) 8 = blk.getD j 0) →
    (∀ j < 8, k2.extractLsb' (8 * j) 8 = blk.getD (8 + j) 0) →
    n1 = ((h1 ^^^ k1mix k1).rotateLeft 27 + h2) * 5 + 0x52dce729 →
    n2 = ((h2 ^^^ k2mix k2).rotateLeft 31 + n1) * 5 + 0x38495ab5 →
      (bmix128 (h1, h2) (blk ++ rest)).1 = (bmix128 (n1, n2) rest).1)

/-- R104, R45: indices 0 to 7 form `k1`, indices 8 to 14 form `k2`, each half changing only if it has a byte. -/
def Obligations.Tail128FoldsTheBytesPresent : Prop :=
  ∀ (h1 h2 k1 k2 : Word64) (t : List Byte), t.length ≤ 15 →
    (∀ j < 8, k1.extractLsb' (8 * j) 8 = t.getD j 0) →
    (∀ j < 8, k2.extractLsb' (8 * j) 8 = t.getD (8 + j) 0) →
      tail128 (h1, h2) t =
        (if t = [] then h1 else h1 ^^^ k1mix k1, if t.length ≤ 8 then h2 else h2 ^^^ k2mix k2)

/-- R105 with the primitives of R8 written out over natural numbers. -/
def Obligations.Fmix64Avalanches : Prop :=
  ∀ (k : Word64) (a b c d : Nat), a = k.toNat ^^^ shrN k.toNat 33 →
    b = mulN 64 a 0xff51afd7ed558ccd → c = b ^^^ shrN b 33 →
    d = mulN 64 c 0xc4ceb9fe1a85ec53 → (fmix64 k).toNat = d ^^^ shrN d 33

/-- R106: the length into both halves, two cross-additions around `FMIX64`, and the half-swap. -/
def Obligations.Fin128CrossAddsAvalanchesAndSwapsHalves : Prop :=
  ∀ (h1 h2 l a1 a2 b1 b2 : Word64), a1 = (h1 ^^^ l) + (h2 ^^^ l) → a2 = (h2 ^^^ l) + a1 →
    b1 = fmix64 a1 + fmix64 a2 → b2 = fmix64 a2 + b1 →
      fin128 (h1, h2) l =
        (b1.extractLsb' 0 32 ++ b1.extractLsb' 32 32, b2.extractLsb' 0 32 ++ b2.extractLsb' 32 32)

/-- R43: byte `space[off + i]` supplies bits `8i + 7 : 8i`, at any offset (R47: no alignment). -/
def Obligations.WordsAreReadLittleEndianAtAnyOffset : Prop :=
  ∀ (space : List Byte) (off i : Nat) (b : Byte), space[off + i]? = some b →
    (i < 4 → off + 4 ≤ space.length → (memRead32 space off).extractLsb' (8 * i) 8 = b) ∧
    (i < 8 → off + 8 ≤ space.length → (memRead64 space off).extractLsb' (8 * i) 8 = b)

/-- R84, R106, R5: the 32-bit digest is the same for both values of `LENW`, and so is the 128-bit digest of fewer than
`2^32` bytes. -/
def Obligations.DigestsAgreeForBothLengthWidths : Prop :=
  (∀ (s : Word32) (b : List Byte), digest32 .w32 s b = digest32 .w64 s b) ∧
  (∀ (s : Word64) (b : List Byte), b.length < 2 ^ 32 → digest128 .w32 s b = digest128 .w64 s b)

/-! ## Properties of sequences of commands -/

/-- R25 items 1 to 4 for `U32`: after creation and any writes, with `W` the concatenation of the payloads. It holds
after the counter wraps, too. -/
def Obligations.Unit32HoldsTheConcatenation : Prop :=
  ∀ (s : State) (seed : Word32) (chunks : List (List Byte)) (w : List Byte), w = chunks.flatten →
    ∃ t, execAll (.create32 seed :: chunks.map .write32) s = .next t ∧
      t.u32 = {
        valid := true
        phase := if chunks = [] then .empty else .accumulating
        seed := seed
        h := (bmix32 seed (w.take (4 * (w.length / 4)))).1
        totalLen := BitVec.ofNat 64 (w.length % 2 ^ s.lenw.bits)
        pend := w.drop (4 * (w.length / 4)) } ∧
      t.u128 = s.u128 ∧ t.inbox = s.inbox ∧ t.lenw = s.lenw ∧ t.freeCount = s.freeCount

/-- R25 items 1 to 4 for `U128`. -/
def Obligations.Unit128HoldsTheConcatenation : Prop :=
  ∀ (s : State) (seed : Word64) (chunks : List (List Byte)) (w : List Byte) (h : Pair64), w = chunks.flatten →
    h = (bmix128 (seed, seed) (w.take (16 * (w.length / 16)))).1 →
    ∃ t, execAll (.create128 seed :: chunks.map .write128) s = .next t ∧
      t.u128 = {
        valid := true
        phase := if chunks = [] then .empty else .accumulating
        seed := seed
        h1 := h.1
        h2 := h.2
        totalLen := BitVec.ofNat 64 (w.length % 2 ^ s.lenw.bits)
        pend := w.drop (16 * (w.length / 16)) } ∧
      t.u32 = s.u32 ∧ t.inbox = s.inbox ∧ t.lenw = s.lenw ∧ t.freeCount = s.freeCount

/-- R136: for both variants the digest does not depend on how the message was cut into writes, empty chunks among
them. -/
def Obligations.ChunkingDoesNotChangeTheDigest : Prop :=
  (∀ (s : State) (seed : Word32) (chunks : List (List Byte)), chunks.flatten.length < 2 ^ s.lenw.bits →
    ∃ t, execAll (.create32 seed :: chunks.map .write32 ++ [.sum32]) s = .next t ∧
      t.responses.getLast? = some {
        status := .ok
        value := (digest32 s.lenw seed chunks.flatten).zeroExtend 128
        out := [] }) ∧
  (∀ (s : State) (seed : Word64) (chunks : List (List Byte)) (d : Pair64),
    chunks.flatten.length < 2 ^ s.lenw.bits → d = digest128 s.lenw seed chunks.flatten →
    ∃ t, execAll (.create128 seed :: chunks.map .write128 ++ [.sum128]) s = .next t ∧
      t.responses.getLast? = some { status := .ok, value := d.1 ++ d.2, out := [] })

/-- R152: the response of `CHECKSUM` is that of `SUM` after `CREATE` and a single write of the payload, or any split of
it into several writes, for every seed and payload, whatever the state each starts from; `CHECKSUM` leaves the units as
they are, the streaming sequence does not. -/
def Obligations.ChecksumEqualsStreaming : Prop :=
  (∀ (s s' : State) (seed : Word32) (p : List Byte) (chunks : List (List Byte)), s.lenw = s'.lenw →
    p.length < 2 ^ s.lenw.bits → chunks.flatten = p →
    ∃ t t' r, exec (.checksum32 seed p) s = .next t ∧
      execAll (.create32 seed :: chunks.map .write32 ++ [.sum32]) s' = .next t' ∧
      t = { s with responses := s.responses ++ [r] } ∧ t'.responses.getLast? = some r ∧
      t'.u32.valid = true ∧ t'.u32.seed = seed ∧ t'.u128 = s'.u128) ∧
  (∀ (s s' : State) (seed : Word64) (p : List Byte) (chunks : List (List Byte)), s.lenw = s'.lenw →
    p.length < 2 ^ s.lenw.bits → chunks.flatten = p →
    ∃ t t' r, exec (.checksum128 seed p) s = .next t ∧
      execAll (.create128 seed :: chunks.map .write128 ++ [.sum128]) s' = .next t' ∧
      t = { s with responses := s.responses ++ [r] } ∧ t'.responses.getLast? = some r ∧
      t'.u128.valid = true ∧ t'.u128.seed = seed ∧ t'.u32 = s'.u32)

/-- R137: `RESET` followed by any writes and a digest query is `CREATE` with the same seed followed by them. -/
def Obligations.ResetThenWritesIsFreshThenWrites : Prop :=
  (∀ (s : State) (chunks : List (List Byte)), s.u32.valid = true →
    ∃ t, execAll (.reset32 :: chunks.map .write32 ++ [.sum32]) s = .next t ∧
      execAll (.create32 s.u32.seed :: chunks.map .write32 ++ [.sum32]) s = .next t) ∧
  (∀ (s : State) (chunks : List (List Byte)), s.u128.valid = true →
    ∃ t, execAll (.reset128 :: chunks.map .write128 ++ [.sum128]) s = .next t ∧
      execAll (.create128 s.u128.seed :: chunks.map .write128 ++ [.sum128]) s = .next t)

/-- R138: two digest queries in a row give the same response, and a query between two writes does not change what a
later query gives. -/
def Obligations.DigestQueriesAreStable : Prop :=
  (∀ (s : State) (p : List Byte), s.u32.valid = true → ∃ t t' r d,
    execAll [.sum32, .sum32] s = .next { s with responses := s.responses ++ [r, r] } ∧
    execAll [.sum32, .write32 p, .sum32] s = .next t ∧ execAll [.write32 p, .sum32] s = .next t' ∧
    t.u32 = t'.u32 ∧ t.responses.getLast? = some d ∧ t'.responses.getLast? = some d) ∧
  (∀ (s : State) (p : List Byte), s.u128.valid = true → ∃ t t' r d,
    execAll [.sum128, .sum128] s = .next { s with responses := s.responses ++ [r, r] } ∧
    execAll [.sum128, .write128 p, .sum128] s = .next t ∧ execAll [.write128 p, .sum128] s = .next t' ∧
    t.u128 = t'.u128 ∧ t.responses.getLast? = some d ∧ t'.responses.getLast? = some d)

/-! ## Whole-machine rules -/

/-- R62, R139: a command's response and what it does to its unit depend on its operands and that unit alone (and on
the parameter `LENW`). -/
def Obligations.ResponsesDependOnTheirOwnUnitOnly : Prop :=
  ∀ (i : Instr) (s s' : State), s.lenw = s'.lenw → (i.variant = .v32 → s.u32 = s'.u32) →
    (i.variant = .v128 → s.u128 = s'.u128) →
    ∃ t t' r, exec i s = .next t ∧ exec i s' = .next t' ∧
      t.responses = s.responses ++ [r] ∧ t'.responses = s'.responses ++ [r] ∧
      (i.variant = .v32 → t.u32 = t'.u32) ∧ (i.variant = .v128 → t.u128 = t'.u128)

/-- R62, R26: a command writes only the unit its variant bit selects; `CHECKSUM`, `SUM`, `SUMBYTES`, `BLOCKSIZE` and
`DIGESTSIZE` write no unit. -/
def Obligations.CommandsWriteOnlyTheirOwnUnit : Prop :=
  ∀ (i : Instr) (s : State), ∃ t, exec i s = .next t ∧
    (i.variant = .v32 → t.u128 = s.u128) ∧ (i.variant = .v128 → t.u32 = s.u32) ∧
    (i.op ∈ [Op.sum, .sumBytes, .blockSize, .digestSize, .checksum] → t.u32 = s.u32 ∧ t.u128 = s.u128) ∧
    t.lenw = s.lenw ∧ t.inbox = s.inbox ∧ t.freeCount = s.freeCount

/-- R160, R60: every command is answered by exactly one response, and with `OK` if its unit has been created. -/
def Obligations.EveryCommandAnswersOnceAndCannotFail : Prop :=
  ∀ (i : Instr) (s : State), ∃ t r, exec i s = .next t ∧ t.responses = s.responses ++ [r] ∧
    ((i.variant = .v32 → s.u32.valid = true) → (i.variant = .v128 → s.u128.valid = true) → r.status = .ok)

/-- R23: a hardware reset clears `valid`, `CREATE` sets it, nothing else changes it. -/
def Obligations.OnlyCreateSetsAndOnlyHardwareResetClearsValid : Prop :=
  (∀ (i : Instr) (s : State), ∃ t, exec i s = .next t ∧
    (t.u32.valid = true ↔ s.u32.valid = true ∨ ∃ seed, i = .create32 seed) ∧
    (t.u128.valid = true ↔ s.u128.valid = true ∨ ∃ seed, i = .create128 seed)) ∧
  (∀ (s t : State), step s = .next t → s.u32.valid = true → t.u32.valid = false →
    ∃ rest, s.inbox = .hardwareReset :: rest) ∧
  (∀ (s t : State), step s = .next t → s.u128.valid = true → t.u128.valid = false →
    ∃ rest, s.inbox = .hardwareReset :: rest)

/-- R22: `CREATE` and `RESET` set `phase` to `Empty`, every `WRITE`, also an empty one, sets it to `Accumulating`,
no other command changes it and neither does a refused one. It speaks of commands only: a hardware reset leaves `phase`
unspecified (R24, R30, R180), and is no command. -/
def Obligations.PhaseFollowsCreateResetAndWrite : Prop :=
  ∀ (i : Instr) (s : State), ∃ t, exec i s = .next t ∧
    ((∃ seed, i = .create32 seed) → t.u32.phase = .empty) ∧
    (i = .reset32 → s.u32.valid = true → t.u32.phase = .empty) ∧
    ((∃ p, i = .write32 p) → s.u32.valid = true → t.u32.phase = .accumulating) ∧
    ((∃ seed, i = .create128 seed) → t.u128.phase = .empty) ∧
    (i = .reset128 → s.u128.valid = true → t.u128.phase = .empty) ∧
    ((∃ p, i = .write128 p) → s.u128.valid = true → t.u128.phase = .accumulating) ∧
    (i.variant = .v32 → t.u128.phase = s.u128.phase) ∧ (i.variant = .v128 → t.u32.phase = s.u32.phase) ∧
    (i.op ∉ [Op.create, .reset, .write] → t.u32.phase = s.u32.phase ∧ t.u128.phase = s.u128.phase) ∧
    (i.op ∈ [Op.reset, .write] → i.variant = .v32 → s.u32.valid = false → t.u32.phase = s.u32.phase) ∧
    (i.op ∈ [Op.reset, .write] → i.variant = .v128 → s.u128.valid = false → t.u128.phase = s.u128.phase)

/-- R153: a checksum's response depends on its operands alone, whatever steps of the engine lie between, a hardware
reset among them. -/
def Obligations.ChecksumResponseIsTheSameLater : Prop :=
  ∀ (i : Instr) (s s' : State) (n : Nat), i.op = .checksum → Host.Core.run core n s = .next s' →
    ∃ t t' r, exec i s = .next t ∧ exec i s' = .next t' ∧
      t.responses = s.responses ++ [r] ∧ t'.responses = s'.responses ++ [r]

/-- R171, R181: with nothing presented, the engine is idle and keeps all of its state (assumption 5). -/
def Obligations.IdleEngineKeepsItsState : Prop :=
  ∀ s : State, s.inbox = [] → step s = .next s

/-- R186 and 93_implementation_defined.md U3: a step stops only at a record that breaks the protocol, and there it
always stops (assumptions 8 and 9). -/
def Obligations.StepStopsExactlyWhereTheProtocolIsBroken : Prop :=
  (∀ (s : State) (r : Refusal), step s ≠ .refused r) ∧
  (∀ s : State, (∃ f, step s = .fault f) ↔
    ∃ c rest, s.inbox = .command c :: rest ∧
      c.cmd ∈ [0x20#8, 0x21#8, 0x50#8, 0x51#8, 0x80#8, 0x81#8] ∧
      (c.payload.length ≠ c.len.toNat ∨ 2 ^ s.lenw.bits ≤ c.payload.length))

/-- R25 items 1 and 4, R20, R21, R68: every step keeps the invariant between commands, from every state that meets
it. -/
def Obligations.StepKeepsTheInvariant : Prop :=
  ∀ s t : State, s.Inv → step s = .next t → t.Inv

/-- The invariant holds right after reset, for both values of `LENW`. -/
def Obligations.ResetMeetsTheInvariant : Prop :=
  State.reset.Inv ∧ ∀ w : LenWidth, (State.resetWith w).Inv

/-- R160, R165, R184: once both units are created and the host is careful, every step answers, no refusal is ever
recorded and the state stays safe. -/
def Obligations.SafeRunsNeverStopAndRecordNoRefusal : Prop :=
  ∀ (n : Nat) (s : State), s.Safe → ∃ t, Host.Core.run core n s = .next t ∧ t.Safe

/-- R50, R60, R189: a step takes at most the first event, answers a command with exactly one response after the
earlier ones, and never changes the parameter. -/
def Obligations.StepTakesOneEventAndAnswersInOrder : Prop :=
  ∀ s t : State, step s = .next t → t.lenw = s.lenw ∧
    ((s.inbox = [] ∧ t = s) ∨
     (∃ rest, s.inbox = .hardwareReset :: rest ∧ t.inbox = rest ∧ t.responses = s.responses) ∨
     (∃ c rest r, s.inbox = .command c :: rest ∧ t.inbox = rest ∧ t.responses = s.responses ++ [r]))

/-- R50: presenting the records of a list of commands and taking as many steps is executing the commands in order. -/
def Obligations.RunOverRecordsExecutesTheCommandsInOrder : Prop :=
  ∀ (is : List Instr) (s : State) (rest : List HostEvent), (∀ i ∈ is, i.wellFormed s.lenw = true) →
    Host.Core.run core is.length
      { s with inbox := is.map (fun i => HostEvent.command (encode i)) ++ rest } =
    execAll is { s with inbox := rest }

/-- Steps of two different engines of a bank commute, and a step of one leaves the others as they are. The bank, a list
of engine states in which one engine steps at a time, is the model's choice (assumption 12): R6 only allows a model to
replicate the engine. This is a fact about `bankStep`; it would hold of any step whatever, since a bank shares no state
by its form (R6, R172). -/
def Obligations.EnginesSideBySideDoNotInterfere : Prop :=
  (∀ (b : List State) (j k : Nat), j ≠ k →
    (bankStep j b).bind (bankStep k) = (bankStep k b).bind (bankStep j)) ∧
  (∀ (b b' : List State) (j k : Nat), j ≠ k → bankStep j b = some b' → b'[k]? = b[k]?)
end

