-- ==== Sys2Proof/Laws/Bytes.lean ====
section
/-! SUPPORT. Laws of byte sequences, the little-endian value and the wrapping counter (R5, R9). -/

namespace Sys2Proof.Machine

@[simp] theorem slice_zero (b : List Byte) (j : Nat) : slice b 0 j = b.take j := rfl

@[simp] theorem slice_to_length (b : List Byte) (i : Nat) : slice b i b.length = b.drop i := by
  simp [slice]

theorem slice_add (b : List Byte) (i n : Nat) : slice b i (i + n) = (b.drop i).take n := by
  simp [slice, List.drop_take]

/-- A sequence of `n` bytes has a value below `2^(8n)`. -/
theorem leValue_lt (b : List Byte) : leValue b < 2 ^ (8 * b.length) := by
  induction b with
  | nil => simp [leValue]
  | cons x xs ih =>
    have hx : x.toNat < 256 := x.isLt
    have : 2 ^ (8 * (x :: xs).length) = 256 * 2 ^ (8 * xs.length) := by
      rw [List.length_cons, Nat.mul_add, Nat.pow_add]; omega
    simp only [leValue, this]
    omega

/-- R43, R45: byte `i` supplies bits `8i + 7 : 8i`, and there are zeros above the bytes present. -/
theorem leValue_byte (b : List Byte) (i : Nat) : leValue b / 2 ^ (8 * i) % 256 = (b.getD i 0).toNat := by
  induction b generalizing i with
  | nil => simp [leValue]
  | cons x xs ih =>
    have hx : x.toNat < 256 := x.isLt
    cases i with
    | zero => simpa [leValue] using hx
    | succ i =>
      have hp : 2 ^ (8 * (i + 1)) = 256 * 2 ^ (8 * i) := by rw [Nat.mul_add, Nat.pow_add]; omega
      have hq : (x.toNat + 256 * leValue xs) / 256 = leValue xs := by omega
      rw [leValue, hp, ← Nat.div_div_eq_div_mul, hq, ih]
      simp

/-- R5: the counter after `n` more bytes. -/
@[simp] theorem addLen_toNat (w : LenWidth) (a : Word64) (n : Nat) :
    (addLen w a n).toNat = (a.toNat + n) % 2 ^ w.bits := by
  have h : (a.toNat + n) % 2 ^ w.bits < 2 ^ 64 := by
    cases w <;> simp only [LenWidth.bits] <;> omega
  simp only [addLen, BitVec.toNat_ofNat]
  exact Nat.mod_eq_of_lt h

/-- R5: counting `m` bytes and then `n` is counting `m + n`. -/
theorem addLen_addLen (w : LenWidth) (a : Word64) (m n : Nat) :
    addLen w (addLen w a m) n = addLen w a (m + n) := by
  apply BitVec.eq_of_toNat_eq
  simp [Nat.add_assoc]

/-- R64: on a payload the port can carry, the `len` operand is its length. -/
theorem lenOperand_eq (w : LenWidth) (p : List Byte) (h : p.length < 2 ^ w.bits) :
    lenOperand w p = BitVec.ofNat 64 p.length := by
  rw [lenOperand, Nat.mod_eq_of_lt h]

end Sys2Proof.Machine
end

