-- ==== Sys2Proof/Laws/Blocks.lean ====
section
/-! SUPPORT. What the block mixers (R82, R103) and the write algorithm (R123) do, said once for both variants. -/

namespace Sys2Proof.Machine

/-- The one property of a block mixer that the write algorithm needs: it consumes the complete blocks, folds nothing
where there is none, and folds a whole number of blocks before what follows them. -/
structure IsMixer {H : Type} (bs : Nat) (bmix : H → List Byte → H × Nat) : Prop where
  consumed : ∀ h b, (bmix h b).2 = bs * (b.length / bs)
  short : ∀ h b, b.length < bs → (bmix h b).1 = h
  append : ∀ h x y, bs ∣ x.length → (bmix h (x ++ y)).1 = (bmix (bmix h x).1 y).1

/-- Folding a function of each block of `x ++ y` is folding over the blocks of `x` and then over those of `y`. -/
theorem foldl_blocks_append {H : Type} (bs : Nat) (hbs : 0 < bs) (f : H → List Byte → H) (h : H)
    (x y : List Byte) (hx : bs ∣ x.length) :
    (List.range ((x ++ y).length / bs)).foldl (fun h i => f h (slice (x ++ y) (bs * i) (bs * i + bs))) h =
      (List.range (y.length / bs)).foldl (fun h i => f h (slice y (bs * i) (bs * i + bs)))
        ((List.range (x.length / bs)).foldl (fun h i => f h (slice x (bs * i) (bs * i + bs))) h) := by
  obtain ⟨m, hm⟩ := hx
  have hlen : (x ++ y).length / bs = m + y.length / bs := by
    rw [List.length_append, hm, Nat.mul_add_div hbs]
  have hxm : x.length / bs = m := by rw [hm, Nat.mul_div_cancel_left _ hbs]
  rw [hlen, hxm, List.range_add, List.foldl_append, List.foldl_map]
  have hleft : (List.range m).foldl (fun h i => f h (slice (x ++ y) (bs * i) (bs * i + bs))) h =
      (List.range m).foldl (fun h i => f h (slice x (bs * i) (bs * i + bs))) h := by
    apply List.foldl_ext
    intro h i hi
    have him : i < m := List.mem_range.mp hi
    have : bs * i + bs ≤ x.length := by rw [hm, ← Nat.mul_succ]; exact Nat.mul_le_mul_left _ him
    rw [slice, slice, List.take_append_of_le_length this]
  rw [hleft]
  apply List.foldl_ext
  intro h i _
  have : bs * (m + i) = x.length + bs * i := by rw [hm, Nat.mul_add]
  rw [slice_add, slice_add, this, ← List.drop_drop, List.drop_left]

theorem memRead32_slice (b : List Byte) (i : Nat) :
    memRead32 b (4 * i) = BitVec.ofNat 32 (leValue (slice b (4 * i) (4 * i + 4))) := rfl

/-- R103: both words of a block, read inside the block. -/
theorem memRead64_slice (b : List Byte) (i : Nat) :
    memRead64 b (16 * i) = memRead64 (slice b (16 * i) (16 * i + 16)) 0 ∧
      memRead64 b (16 * i + 8) = memRead64 (slice b (16 * i) (16 * i + 16)) 8 := by
  constructor <;> simp only [memRead64, slice_add] <;> congr 2 <;>
    simp [List.take_take, List.drop_take]

/-- R82 in terms of whole blocks. -/
theorem bmix32_eq (h : Word32) (b : List Byte) :
    (bmix32 h b).1 = (List.range (b.length / 4)).foldl
      (fun h i => (fun h blk => foldWord32 h (BitVec.ofNat 32 (leValue blk))) h
        (slice b (4 * i) (4 * i + 4))) h := rfl

/-- R103 in terms of whole blocks. -/
theorem bmix128_eq (h : Pair64) (b : List Byte) :
    (bmix128 h b).1 = (List.range (b.length / 16)).foldl
      (fun h i => (fun h blk => foldWords128 h (memRead64 blk 0) (memRead64 blk 8)) h
        (slice b (16 * i) (16 * i + 16))) h := by
  simp only [bmix128]
  apply List.foldl_ext
  intro h i _
  rw [(memRead64_slice b i).1, (memRead64_slice b i).2]

theorem bmix32_isMixer : IsMixer 4 bmix32 where
  consumed _ _ := rfl
  short h b hb := by rw [bmix32_eq, Nat.div_eq_of_lt hb]; rfl
  append h x y hx := by
    rw [bmix32_eq, bmix32_eq, bmix32_eq]
    exact foldl_blocks_append 4 (by decide) (fun h blk => foldWord32 h (BitVec.ofNat 32 (leValue blk))) h x y hx

theorem bmix128_isMixer : IsMixer 16 bmix128 where
  consumed _ _ := rfl
  short h b hb := by rw [bmix128_eq, Nat.div_eq_of_lt hb]; rfl
  append h x y hx := by
    rw [bmix128_eq, bmix128_eq, bmix128_eq]; exact foldl_blocks_append 16 (by decide)
      (fun h blk => foldWords128 h (memRead64 blk 0) (memRead64 blk 8)) h x y hx

/-- A mixer reads only the complete blocks. -/
theorem IsMixer.take_complete {H : Type} {bs : Nat} {bmix : H → List Byte → H × Nat} (m : IsMixer bs bmix)
    (hbs : 0 < bs) (h : H) (b : List Byte) : (bmix h (b.take (bs * (b.length / bs)))).1 = (bmix h b).1 := by
  have hle : bs * (b.length / bs) ≤ b.length := Nat.mul_div_le _ _
  have hdvd : bs ∣ (b.take (bs * (b.length / bs))).length := by
    rw [List.length_take, Nat.min_eq_left hle]; exact ⟨_, rfl⟩
  have hrest : (b.drop (bs * (b.length / bs))).length < bs := by
    rw [List.length_drop]
    have := Nat.div_add_mod b.length bs
    have := Nat.mod_lt b.length hbs
    omega
  conv_rhs => rw [← List.take_append_drop (bs * (b.length / bs)) b, m.append _ _ _ hdvd, m.short _ _ hrest]

/-- R123, R25 item 3: where fewer than a block of bytes is pending, the write algorithm folds every complete block of
the pending bytes followed by the payload and keeps the rest. -/
theorem writeBytes_eq {H : Type} {bs : Nat} {bmix : H → List Byte → H × Nat} (m : IsMixer bs bmix) (h : H)
    (pend p : List Byte) (hp : pend.length < bs) :
    writeBytes bs bmix h pend p =
      ((bmix h (pend ++ p)).1, (pend ++ p).drop (bs * ((pend ++ p).length / bs))) := by
  have hbs : 0 < bs := by omega
  unfold writeBytes
  split
  · rename_i hlt
    have hl : (pend ++ p).length < bs := by simpa using hlt
    rw [m.short _ _ hl, Nat.div_eq_of_lt hl]
    simp
  · rename_i hge
    have ht : bs - pend.length ≤ p.length := by omega
    have hfl : (pend ++ p.take (bs - pend.length)).length = bs := by
      rw [List.length_append, List.length_take, Nat.min_eq_left ht]; omega
    have hsplit : pend ++ p = (pend ++ p.take (bs - pend.length)) ++ p.drop (bs - pend.length) := by
      rw [List.append_assoc, List.take_append_drop]
    simp only [slice_zero, slice_to_length]
    have hfold : (bmix h (pend ++ p)).1 =
        (bmix (bmix h (pend ++ p.take (bs - pend.length))).1 (p.drop (bs - pend.length))).1 := by
      conv_lhs => rw [hsplit, m.append h _ _ ⟨1, by omega⟩]
    refine Prod.ext hfold.symm ?_
    have hcount : (bs + (p.drop (bs - pend.length)).length) / bs =
        (p.drop (bs - pend.length)).length / bs + 1 := by rw [Nat.add_div_left _ hbs]
    simp only [m.consumed, ← List.drop_drop]
    conv_rhs => rw [hsplit, List.length_append, hfl]
    rw [hcount, Nat.mul_succ, Nat.add_comm (bs * _) bs, ← List.drop_drop, List.drop_left' hfl]

/-- What is left pending is shorter than a block, and its length is the remainder. -/
theorem length_drop_complete (bs : Nat) (b : List Byte) :
    (b.drop (bs * (b.length / bs))).length = b.length % bs := by
  rw [List.length_drop]
  have := Nat.div_add_mod b.length bs
  omega

end Sys2Proof.Machine
end

