-- ==== Sys2Proof/Laws/Decode.lean ====
section
/-! SUPPORT. The command word read both ways (R61, R65), and what the decoder does once the word is known. -/

namespace Sys2Proof

theorem wellFormed_iff (w : LenWidth) (i : Instr) : i.wellFormed w = true ↔ i.payload.length < 2 ^ w.bits := by
  simp [Instr.wellFormed]

/-- The word of an operation and a unit decodes to them. -/
theorem decodeWord_encodeWord (op : Op) (v : Variant) : decodeWord (encodeWord op v) = .ok (op, v) := by
  cases op <;> cases v <;> rfl

/-- A word that decodes is the word of what it decodes to: two words never decode alike. -/
theorem eq_encodeWord {w : Byte} {op : Op} {v : Variant} (h : decodeWord w = .ok (op, v)) :
    w = encodeWord op v := by
  have key : ∀ w : Byte, ∀ op ∈ [Op.create, .write, .reset, .sum, .sumBytes, .blockSize, .digestSize, .checksum],
      ∀ v ∈ [Variant.v32, .v128], (decodeWord w).toOption = some (op, v) → w = encodeWord op v := by decide
  exact key w op (by cases op <;> decide) v (by cases v <;> decide) (by rw [h]; rfl)

/-- A word is rejected as illegal, never for its payload. -/
theorem decodeWord_error {w : Byte} {e : DecodeError} (h : decodeWord w = .error e) :
    e = .reservedBits ∨ e = .unassignedOp := by
  unfold decodeWord at h
  split at h
  · split at h <;> simp_all
  · simp_all

/-- The decoder on a legal word. -/
theorem decode_of_word {c : Command} {op : Op} {v : Variant} (h : decodeWord c.cmd = .ok (op, v)) :
    decode c = if op.format.readsPayload && !c.payloadMatches then .error .payloadLengthMismatch
      else .ok (assemble op v c) := by
  simp [decode, h]

end Sys2Proof
end

