-- ==== Sys2Proof/Laws/State.lean ====
section
/-! SUPPORT. One lemma per field for each update of the state and of a unit, each true by rfl, so that no later proof
unfolds a record update. -/

namespace Sys2Proof.Machine

@[simp] theorem setU32_lenw (u : Unit32) (s : State) : (s.setU32 u).lenw = s.lenw := rfl
@[simp] theorem setU32_u32 (u : Unit32) (s : State) : (s.setU32 u).u32 = u := rfl
@[simp] theorem setU32_u128 (u : Unit32) (s : State) : (s.setU32 u).u128 = s.u128 := rfl
@[simp] theorem setU32_inbox (u : Unit32) (s : State) : (s.setU32 u).inbox = s.inbox := rfl
@[simp] theorem setU32_responses (u : Unit32) (s : State) : (s.setU32 u).responses = s.responses := rfl
@[simp] theorem setU32_freeCount (u : Unit32) (s : State) : (s.setU32 u).freeCount = s.freeCount := rfl

@[simp] theorem setU128_lenw (u : Unit128) (s : State) : (s.setU128 u).lenw = s.lenw := rfl
@[simp] theorem setU128_u32 (u : Unit128) (s : State) : (s.setU128 u).u32 = s.u32 := rfl
@[simp] theorem setU128_u128 (u : Unit128) (s : State) : (s.setU128 u).u128 = u := rfl
@[simp] theorem setU128_inbox (u : Unit128) (s : State) : (s.setU128 u).inbox = s.inbox := rfl
@[simp] theorem setU128_responses (u : Unit128) (s : State) : (s.setU128 u).responses = s.responses := rfl
@[simp] theorem setU128_freeCount (u : Unit128) (s : State) : (s.setU128 u).freeCount = s.freeCount := rfl

@[simp] theorem respond_lenw (r : Response) (s : State) : (s.respond r).lenw = s.lenw := rfl
@[simp] theorem respond_u32 (r : Response) (s : State) : (s.respond r).u32 = s.u32 := rfl
@[simp] theorem respond_u128 (r : Response) (s : State) : (s.respond r).u128 = s.u128 := rfl
@[simp] theorem respond_inbox (r : Response) (s : State) : (s.respond r).inbox = s.inbox := rfl
@[simp] theorem respond_responses (r : Response) (s : State) :
    (s.respond r).responses = s.responses ++ [r] := rfl
@[simp] theorem respond_freeCount (r : Response) (s : State) : (s.respond r).freeCount = s.freeCount := rfl

@[simp] theorem dropEvent_lenw (s : State) : s.dropEvent.lenw = s.lenw := rfl
@[simp] theorem dropEvent_u32 (s : State) : s.dropEvent.u32 = s.u32 := rfl
@[simp] theorem dropEvent_u128 (s : State) : s.dropEvent.u128 = s.u128 := rfl
@[simp] theorem dropEvent_inbox (s : State) : s.dropEvent.inbox = s.inbox.tail := rfl
@[simp] theorem dropEvent_responses (s : State) : s.dropEvent.responses = s.responses := rfl
@[simp] theorem dropEvent_freeCount (s : State) : s.dropEvent.freeCount = s.freeCount := rfl

@[simp] theorem present_lenw (c : Command) (s : State) : (s.present c).lenw = s.lenw := rfl
@[simp] theorem present_u32 (c : Command) (s : State) : (s.present c).u32 = s.u32 := rfl
@[simp] theorem present_u128 (c : Command) (s : State) : (s.present c).u128 = s.u128 := rfl
@[simp] theorem present_inbox (c : Command) (s : State) : (s.present c).inbox = .command c :: s.inbox := rfl
@[simp] theorem present_responses (c : Command) (s : State) : (s.present c).responses = s.responses := rfl
@[simp] theorem present_freeCount (c : Command) (s : State) : (s.present c).freeCount = s.freeCount := rfl

@[simp] theorem hardwareReset_lenw (s : State) : s.hardwareReset.lenw = s.lenw := rfl
@[simp] theorem hardwareReset_u32 (s : State) :
    s.hardwareReset.u32 = freeUnit32 s.lenw s.freeCount := rfl
@[simp] theorem hardwareReset_u128 (s : State) :
    s.hardwareReset.u128 = freeUnit128 s.lenw s.freeCount := rfl
@[simp] theorem hardwareReset_inbox (s : State) : s.hardwareReset.inbox = s.inbox := rfl
@[simp] theorem hardwareReset_responses (s : State) : s.hardwareReset.responses = s.responses := rfl
@[simp] theorem hardwareReset_freeCount (s : State) : s.hardwareReset.freeCount = s.freeCount + 1 := rfl

@[simp] theorem freeUnit32_valid (w : LenWidth) (n : Nat) : (freeUnit32 w n).valid = false := rfl
@[simp] theorem freeUnit128_valid (w : LenWidth) (n : Nat) : (freeUnit128 w n).valid = false := rfl

@[simp] theorem create32_valid (seed : Word32) (u : Unit32) : (u.create seed).valid = true := rfl
@[simp] theorem create32_phase (seed : Word32) (u : Unit32) : (u.create seed).phase = .empty := rfl
@[simp] theorem create32_seed (seed : Word32) (u : Unit32) : (u.create seed).seed = seed := rfl
@[simp] theorem create32_h (seed : Word32) (u : Unit32) : (u.create seed).h = seed := rfl
@[simp] theorem create32_totalLen (seed : Word32) (u : Unit32) : (u.create seed).totalLen = 0 := rfl
@[simp] theorem create32_pend (seed : Word32) (u : Unit32) : (u.create seed).pend = [] := rfl

@[simp] theorem create128_valid (seed : Word64) (u : Unit128) : (u.create seed).valid = true := rfl
@[simp] theorem create128_phase (seed : Word64) (u : Unit128) : (u.create seed).phase = .empty := rfl
@[simp] theorem create128_seed (seed : Word64) (u : Unit128) : (u.create seed).seed = seed := rfl
@[simp] theorem create128_h1 (seed : Word64) (u : Unit128) : (u.create seed).h1 = seed := rfl
@[simp] theorem create128_h2 (seed : Word64) (u : Unit128) : (u.create seed).h2 = seed := rfl
@[simp] theorem create128_totalLen (seed : Word64) (u : Unit128) : (u.create seed).totalLen = 0 := rfl
@[simp] theorem create128_pend (seed : Word64) (u : Unit128) : (u.create seed).pend = [] := rfl

@[simp] theorem write32_valid (w : LenWidth) (p : List Byte) (u : Unit32) : (u.write w p).valid = u.valid := rfl
@[simp] theorem write32_phase (w : LenWidth) (p : List Byte) (u : Unit32) :
    (u.write w p).phase = .accumulating := rfl
@[simp] theorem write32_seed (w : LenWidth) (p : List Byte) (u : Unit32) : (u.write w p).seed = u.seed := rfl
@[simp] theorem write32_totalLen (w : LenWidth) (p : List Byte) (u : Unit32) :
    (u.write w p).totalLen = addLen w u.totalLen p.length := rfl
theorem write32_h (w : LenWidth) (p : List Byte) (u : Unit32) :
    (u.write w p).h = (writeBytes blockSize32 bmix32 u.h u.pend p).1 := rfl
theorem write32_pend (w : LenWidth) (p : List Byte) (u : Unit32) :
    (u.write w p).pend = (writeBytes blockSize32 bmix32 u.h u.pend p).2 := rfl

@[simp] theorem write128_valid (w : LenWidth) (p : List Byte) (u : Unit128) :
    (u.write w p).valid = u.valid := rfl
@[simp] theorem write128_phase (w : LenWidth) (p : List Byte) (u : Unit128) :
    (u.write w p).phase = .accumulating := rfl
@[simp] theorem write128_seed (w : LenWidth) (p : List Byte) (u : Unit128) : (u.write w p).seed = u.seed := rfl
@[simp] theorem write128_totalLen (w : LenWidth) (p : List Byte) (u : Unit128) :
    (u.write w p).totalLen = addLen w u.totalLen p.length := rfl
theorem write128_h (w : LenWidth) (p : List Byte) (u : Unit128) :
    ((u.write w p).h1, (u.write w p).h2) = (writeBytes blockSize128 bmix128 (u.h1, u.h2) u.pend p).1 := rfl
theorem write128_pend (w : LenWidth) (p : List Byte) (u : Unit128) :
    (u.write w p).pend = (writeBytes blockSize128 bmix128 (u.h1, u.h2) u.pend p).2 := rfl

@[simp] theorem restart32_valid (u : Unit32) : u.restart.valid = u.valid := rfl
@[simp] theorem restart32_phase (u : Unit32) : u.restart.phase = .empty := rfl
@[simp] theorem restart32_seed (u : Unit32) : u.restart.seed = u.seed := rfl
@[simp] theorem restart32_h (u : Unit32) : u.restart.h = u.seed := rfl
@[simp] theorem restart32_totalLen (u : Unit32) : u.restart.totalLen = 0 := rfl
@[simp] theorem restart32_pend (u : Unit32) : u.restart.pend = [] := rfl

@[simp] theorem restart128_valid (u : Unit128) : u.restart.valid = u.valid := rfl
@[simp] theorem restart128_phase (u : Unit128) : u.restart.phase = .empty := rfl
@[simp] theorem restart128_seed (u : Unit128) : u.restart.seed = u.seed := rfl
@[simp] theorem restart128_h1 (u : Unit128) : u.restart.h1 = u.seed := rfl
@[simp] theorem restart128_h2 (u : Unit128) : u.restart.h2 = u.seed := rfl
@[simp] theorem restart128_totalLen (u : Unit128) : u.restart.totalLen = 0 := rfl
@[simp] theorem restart128_pend (u : Unit128) : u.restart.pend = [] := rfl

end Sys2Proof.Machine
end

