-- ==== Sys2Proof/Laws/Exec.lean ====
section
/-! SUPPORT. What the shared operations and a step can answer, said once: later proofs cite these and unfold
nothing. -/

namespace Sys2Proof.Machine

theorem ifCreated32_created {s : State} (body : State) (h : s.u32.valid = true) :
    ifCreated32 s body = .next body := by simp [ifCreated32, h]

theorem ifCreated32_refused {s : State} (body : State) (h : s.u32.valid = false) :
    ifCreated32 s body = .next (s.refuse .notCreated) := by simp [ifCreated32, h]

theorem ifCreated128_created {s : State} (body : State) (h : s.u128.valid = true) :
    ifCreated128 s body = .next body := by simp [ifCreated128, h]

theorem ifCreated128_refused {s : State} (body : State) (h : s.u128.valid = false) :
    ifCreated128 s body = .next (s.refuse .notCreated) := by simp [ifCreated128, h]

/-- R120 step 3: either the body's state, on a created unit, or the refusal. -/
theorem ifCreated32_cases (s body : State) :
    (s.u32.valid = true ∧ ifCreated32 s body = .next body) ∨
      (s.u32.valid = false ∧ ifCreated32 s body = .next (s.refuse .notCreated)) := by
  cases h : s.u32.valid <;> simp [ifCreated32, h]

theorem ifCreated128_cases (s body : State) :
    (s.u128.valid = true ∧ ifCreated128 s body = .next body) ∨
      (s.u128.valid = false ∧ ifCreated128 s body = .next (s.refuse .notCreated)) := by
  cases h : s.u128.valid <;> simp [ifCreated128, h]

/-- What a command can do: it leaves `U32` as it was, or creates, writes or restarts it; likewise `U128`; and it
appends one response. -/
inductive Does (s : State) : Instr → State → Prop where
  | refused32 (i : Instr) (h : s.u32.valid = false) (hv : i.variant = .v32)
      (ho : i.op ∈ [Op.write, .reset, .sum, .sumBytes]) : Does s i (s.refuse .notCreated)
  | refused128 (i : Instr) (h : s.u128.valid = false) (hv : i.variant = .v128)
      (ho : i.op ∈ [Op.write, .reset, .sum, .sumBytes]) : Does s i (s.refuse .notCreated)
  | create32 (seed : Word32) : Does s (.create32 seed) ((s.setU32 (s.u32.create seed)).answer 0)
  | create128 (seed : Word64) : Does s (.create128 seed) ((s.setU128 (s.u128.create seed)).answer 0)
  | write32 (p : List Byte) (h : s.u32.valid = true) :
      Does s (.write32 p) ((s.setU32 (s.u32.write s.lenw p)).answer (valueOfLen p.length))
  | write128 (p : List Byte) (h : s.u128.valid = true) :
      Does s (.write128 p) ((s.setU128 (s.u128.write s.lenw p)).answer (valueOfLen p.length))
  | reset32 (h : s.u32.valid = true) : Does s .reset32 ((s.setU32 s.u32.restart).answer 0)
  | reset128 (h : s.u128.valid = true) : Does s .reset128 ((s.setU128 s.u128.restart).answer 0)
  | query (i : Instr) (ho : i.op ∈ [Op.sum, .sumBytes, .blockSize, .digestSize, .checksum])
      (r : Response) (hr : r.status = .ok) : Does s i (s.respond r)

/-- Every command answers a next state, and it is one of those of `Does`. -/
theorem exec_does (i : Instr) (s : State) : ∃ t, exec i s = .next t ∧ Does s i t := by
  cases i with
  | create32 seed => exact ⟨_, rfl, .create32 seed⟩
  | create128 seed => exact ⟨_, rfl, .create128 seed⟩
  | write32 p =>
    rcases ifCreated32_cases s ((s.setU32 (s.u32.write s.lenw p)).answer (valueOfLen p.length)) with
      ⟨h, e⟩ | ⟨h, e⟩
    · exact ⟨_, e, .write32 p h⟩
    · exact ⟨_, e, .refused32 _ h rfl (by decide : Op.write ∈ _)⟩
  | write128 p =>
    rcases ifCreated128_cases s ((s.setU128 (s.u128.write s.lenw p)).answer (valueOfLen p.length)) with
      ⟨h, e⟩ | ⟨h, e⟩
    · exact ⟨_, e, .write128 p h⟩
    · exact ⟨_, e, .refused128 _ h rfl (by decide : Op.write ∈ _)⟩
  | reset32 =>
    rcases ifCreated32_cases s ((s.setU32 s.u32.restart).answer 0) with ⟨h, e⟩ | ⟨h, e⟩
    · exact ⟨_, e, .reset32 h⟩
    · exact ⟨_, e, .refused32 _ h rfl (by decide)⟩
  | reset128 =>
    rcases ifCreated128_cases s ((s.setU128 s.u128.restart).answer 0) with ⟨h, e⟩ | ⟨h, e⟩
    · exact ⟨_, e, .reset128 h⟩
    · exact ⟨_, e, .refused128 _ h rfl (by decide)⟩
  | sum32 =>
    rcases ifCreated32_cases s (s.answer (valueOfWord s.u32.digest)) with ⟨_, e⟩ | ⟨h, e⟩
    · exact ⟨_, e, .query _ (by decide) _ rfl⟩
    · exact ⟨_, e, .refused32 _ h rfl (by decide)⟩
  | sum128 =>
    rcases ifCreated128_cases s (s.answer (valueOfPair s.u128.digest)) with ⟨_, e⟩ | ⟨h, e⟩
    · exact ⟨_, e, .query _ (by decide) _ rfl⟩
    · exact ⟨_, e, .refused128 _ h rfl (by decide)⟩
  | sumBytes32 p =>
    rcases ifCreated32_cases s (s.answerBytes (p ++ be32 s.u32.digest)) with ⟨_, e⟩ | ⟨h, e⟩
    · exact ⟨_, e, .query _ (by decide : Op.sumBytes ∈ _) _ rfl⟩
    · exact ⟨_, e, .refused32 _ h rfl (by decide : Op.sumBytes ∈ _)⟩
  | sumBytes128 p =>
    rcases ifCreated128_cases s (s.answerBytes (p ++ be64 s.u128.digest.1 ++ be64 s.u128.digest.2)) with
      ⟨_, e⟩ | ⟨h, e⟩
    · exact ⟨_, e, .query _ (by decide : Op.sumBytes ∈ _) _ rfl⟩
    · exact ⟨_, e, .refused128 _ h rfl (by decide : Op.sumBytes ∈ _)⟩
  | blockSize32 => exact ⟨_, rfl, .query _ (by decide) _ rfl⟩
  | blockSize128 => exact ⟨_, rfl, .query _ (by decide) _ rfl⟩
  | digestSize32 => exact ⟨_, rfl, .query _ (by decide) _ rfl⟩
  | digestSize128 => exact ⟨_, rfl, .query _ (by decide) _ rfl⟩
  | checksum32 seed p => exact ⟨_, rfl, .query _ (by decide : Op.checksum ∈ _) _ rfl⟩
  | checksum128 seed p => exact ⟨_, rfl, .query _ (by decide : Op.checksum ∈ _) _ rfl⟩

/-- What a step can answer, by what is at the port. -/
theorem step_cases (s : State) :
    (s.inbox = [] ∧ step s = .next s) ∨
    (∃ rest, s.inbox = .hardwareReset :: rest ∧ step s = .next (State.hardwareReset { s with inbox := rest })) ∨
    (∃ c rest, s.inbox = .command c :: rest ∧
      ((∃ i, decode c = .ok i ∧ i.wellFormed s.lenw = true ∧ step s = exec i { s with inbox := rest }) ∨
       ((decode c = .error .reservedBits ∨ decode c = .error .unassignedOp) ∧
          step s = .next (State.refuse .illegalCmd { s with inbox := rest })) ∨
       (decode c = .error .payloadLengthMismatch ∧ step s = .fault .payloadLengthMismatch) ∨
       (∃ i, decode c = .ok i ∧ i.wellFormed s.lenw = false ∧ step s = .fault .lengthBeyondPort))) := by
  obtain ⟨lenw, u32, u128, inbox, responses, n⟩ := s
  rcases inbox with _ | ⟨e, rest⟩
  · exact .inl ⟨rfl, rfl⟩
  · rcases e with c | _
    · refine .inr (.inr ⟨c, rest, rfl, ?_⟩)
      rcases h : decode c with e | i
      · cases e <;> simp [step, accept, acceptCommand, h, State.dropEvent]
      · cases hw : i.wellFormed lenw <;> simp [step, accept, acceptCommand, h, hw, State.dropEvent]
    · exact .inr (.inl ⟨rest, rfl, rfl⟩)

end Sys2Proof.Machine
end

