-- ==== Sys2Proof/Laws/PerInstr.lean ====
section
/-! SUPPORT. Statements per instruction, as syntax. The family CommandWord: the command word of an instruction's record
is read back as its operation and its unit (R61, R65), one lemma per constructor. -/

/-- The word the encoder writes for `i` decodes to the operation and the unit of `i`. -/
def Sys2Proof.Laws.CommandWord.Statement (i : Sys2Proof.Instr) : Prop :=
  Sys2Proof.decodeWord (Sys2Proof.encode i).cmd = .ok (i.op, i.variant)

theorem Sys2Proof.Laws.CommandWord.create32 (seed : Sys2Proof.Word32) :
    Sys2Proof.Laws.CommandWord.Statement (.create32 seed) :=
  Sys2Proof.decodeWord_encodeWord _ _
theorem Sys2Proof.Laws.CommandWord.create128 (seed : Sys2Proof.Word64) :
    Sys2Proof.Laws.CommandWord.Statement (.create128 seed) :=
  Sys2Proof.decodeWord_encodeWord _ _
theorem Sys2Proof.Laws.CommandWord.write32 (payload : List Sys2Proof.Byte) :
    Sys2Proof.Laws.CommandWord.Statement (.write32 payload) :=
  Sys2Proof.decodeWord_encodeWord _ _
theorem Sys2Proof.Laws.CommandWord.write128 (payload : List Sys2Proof.Byte) :
    Sys2Proof.Laws.CommandWord.Statement (.write128 payload) :=
  Sys2Proof.decodeWord_encodeWord _ _
theorem Sys2Proof.Laws.CommandWord.reset32 : Sys2Proof.Laws.CommandWord.Statement .reset32 :=
  Sys2Proof.decodeWord_encodeWord _ _
theorem Sys2Proof.Laws.CommandWord.reset128 : Sys2Proof.Laws.CommandWord.Statement .reset128 :=
  Sys2Proof.decodeWord_encodeWord _ _
theorem Sys2Proof.Laws.CommandWord.sum32 : Sys2Proof.Laws.CommandWord.Statement .sum32 :=
  Sys2Proof.decodeWord_encodeWord _ _
theorem Sys2Proof.Laws.CommandWord.sum128 : Sys2Proof.Laws.CommandWord.Statement .sum128 :=
  Sys2Proof.decodeWord_encodeWord _ _
theorem Sys2Proof.Laws.CommandWord.sumBytes32 (payload : List Sys2Proof.Byte) :
    Sys2Proof.Laws.CommandWord.Statement (.sumBytes32 payload) :=
  Sys2Proof.decodeWord_encodeWord _ _
theorem Sys2Proof.Laws.CommandWord.sumBytes128 (payload : List Sys2Proof.Byte) :
    Sys2Proof.Laws.CommandWord.Statement (.sumBytes128 payload) :=
  Sys2Proof.decodeWord_encodeWord _ _
theorem Sys2Proof.Laws.CommandWord.blockSize32 : Sys2Proof.Laws.CommandWord.Statement .blockSize32 :=
  Sys2Proof.decodeWord_encodeWord _ _
theorem Sys2Proof.Laws.CommandWord.blockSize128 : Sys2Proof.Laws.CommandWord.Statement .blockSize128 :=
  Sys2Proof.decodeWord_encodeWord _ _
theorem Sys2Proof.Laws.CommandWord.digestSize32 : Sys2Proof.Laws.CommandWord.Statement .digestSize32 :=
  Sys2Proof.decodeWord_encodeWord _ _
theorem Sys2Proof.Laws.CommandWord.digestSize128 : Sys2Proof.Laws.CommandWord.Statement .digestSize128 :=
  Sys2Proof.decodeWord_encodeWord _ _
theorem Sys2Proof.Laws.CommandWord.checksum32 (seed : Sys2Proof.Word32) (payload : List Sys2Proof.Byte) :
    Sys2Proof.Laws.CommandWord.Statement (.checksum32 seed payload) :=
  Sys2Proof.decodeWord_encodeWord _ _
theorem Sys2Proof.Laws.CommandWord.checksum128 (seed : Sys2Proof.Word64) (payload : List Sys2Proof.Byte) :
    Sys2Proof.Laws.CommandWord.Statement (.checksum128 seed payload) :=
  Sys2Proof.decodeWord_encodeWord _ _
end

