-- ==== Sys2Proof/Laws/Primitives.lean ====
section
/-! SUPPORT. The bit-vector operations of the data path are the primitives of R8. -/

namespace Sys2Proof.Machine

theorem add_toNat {n : Nat} (a b : BitVec n) : (a + b).toNat = addN n a.toNat b.toNat := BitVec.toNat_add a b

theorem mul_toNat {n : Nat} (a b : BitVec n) : (a * b).toNat = mulN n a.toNat b.toNat := BitVec.toNat_mul a b

theorem shr_toNat {n : Nat} (v : BitVec n) (s : Nat) : (shr v s).toNat = shrN v.toNat s := by
  rw [shr, BitVec.toNat_ushiftRight, Nat.shiftRight_eq_div_pow, shrN]

/-- R8: the rotation loses no bit; for `0 < r < N` it is the sum of the two shifted parts. -/
theorem rotl_toNat {n : Nat} (v : BitVec n) (r : Nat) (hr : r < n) : (rotl v r).toNat = rotlN n v.toNat r := by
  have hsplit : (2 : Nat) ^ n = 2 ^ r * 2 ^ (n - r) := by rw [← Nat.pow_add]; congr 1; omega
  have hlow : v.toNat / 2 ^ (n - r) < 2 ^ r := by
    apply Nat.div_lt_of_lt_mul
    rw [Nat.mul_comm, ← hsplit]
    exact v.isLt
  have hhigh : v.toNat * 2 ^ r % 2 ^ n = 2 ^ r * (v.toNat % 2 ^ (n - r)) := by
    rw [hsplit, Nat.mul_comm v.toNat, Nat.mul_mod_mul_left]
  rw [rotl, BitVec.rotateLeft_eq_rotateLeftAux_of_lt hr, BitVec.rotateLeftAux, BitVec.toNat_or,
    BitVec.toNat_shiftLeft, BitVec.toNat_ushiftRight, Nat.shiftLeft_eq, Nat.shiftRight_eq_div_pow, rotlN, hhigh,
    Nat.two_pow_add_eq_or_of_lt hlow]

/-! R80 and R100: the constants as numbers. -/

theorem c1of32_toNat : c1of32.toNat = 0xcc9e2d51 := by decide
theorem c2of32_toNat : c2of32.toNat = 0x1b873593 := by decide
theorem f1of32_toNat : f1of32.toNat = 0x85ebca6b := by decide
theorem f2of32_toNat : f2of32.toNat = 0xc2b2ae35 := by decide
theorem c1of64_toNat : c1of64.toNat = 0x87c37b91114253d5 := by decide
theorem c2of64_toNat : c2of64.toNat = 0x4cf5ad432745937f := by decide
theorem f1of64_toNat : f1of64.toNat = 0xff51afd7ed558ccd := by decide
theorem f2of64_toNat : f2of64.toNat = 0xc4ceb9fe1a85ec53 := by decide

end Sys2Proof.Machine
end

