-- ==== Sys2Proof/Laws/Run.lean ====
section
/-! SUPPORT. Sequences of commands and of steps, one element at a time. -/

namespace Sys2Proof.Machine

theorem execAll_cons {i : Instr} {is : List Instr} {s t : State} (h : exec i s = .next t) :
    execAll (i :: is) s = execAll is t := by simp [execAll, h]

theorem execAll_append {xs ys : List Instr} {s t : State} (h : execAll xs s = .next t) :
    execAll (xs ++ ys) s = execAll ys t := by
  induction xs generalizing s with
  | nil => injection h with h; rw [h, List.nil_append]
  | cons i is ih =>
    obtain ⟨t', h', _⟩ := exec_does i s
    rw [execAll_cons h'] at h
    rw [List.cons_append, execAll_cons h', ih h]

/-- R160: no list of commands stops. -/
theorem execAll_next (is : List Instr) (s : State) : ∃ t, execAll is s = .next t := by
  induction is generalizing s with
  | nil => exact ⟨s, rfl⟩
  | cons i is ih =>
    obtain ⟨t, h, _⟩ := exec_does i s
    rw [execAll_cons h]
    exact ih t

theorem run_next {n : Nat} {s t : State} (h : step s = .next t) :
    Host.Core.run core (n + 1) s = Host.Core.run core n t := by
  have h' : core.step s = .next t := h
  simp only [Host.Core.run, h']

theorem run_fault {n : Nat} {s : State} {f : Fault} (h : step s = .fault f) :
    Host.Core.run core (n + 1) s = .fault f := by
  have h' : core.step s = .fault f := h
  simp only [Host.Core.run, h']

end Sys2Proof.Machine
end

