-- ==== Sys2Proof/Tests/Slice0.lean ====
section
/-! SUPPORT. Tests. Every expected value is taken from spec/95_test_vectors.md or from an example of the rule named;
none is the model's own answer. At the end, for every statement with hypotheses, a concrete input that meets them. -/

namespace Sys2Proof.Tests

open Sys2Proof Sys2Proof.Machine

set_option maxRecDepth 8000

/-! ## Small inputs -/

/-- A created `U32` (section 6.4 of 95_test_vectors.md gives `h`, `totalLen`, `pend` for each row). -/
def unit32 (seed h : Word32) (n : Word64) (pend : List Byte) : Unit32 :=
  { valid := true, phase := .accumulating, seed := seed, h := h, totalLen := n, pend := pend }

/-- A created `U128`. -/
def unit128 (seed h1 h2 n : Word64) (pend : List Byte) : Unit128 :=
  { valid := true, phase := .accumulating, seed := seed, h1 := h1, h2 := h2, totalLen := n, pend := pend }

/-- The state with this `U32`. -/
def with32 (u : Unit32) : State := { State.reset with u32 := u }

/-- The state with this `U128`. -/
def with128 (u : Unit128) : State := { State.reset with u128 := u }

/-- The state with these events. -/
def withInbox (es : List HostEvent) : State := { State.reset with inbox := es }

/-- The bytes `0, 1, …, n - 1`. -/
def upTo (n : Nat) : List Byte := (List.range n).map (BitVec.ofNat 8)

/-- "hello". -/
def hello : List Byte := [0x68, 0x65, 0x6C, 0x6C, 0x6F]

/-- `U32` after "hello" with seed 42 (example of R128). -/
def helloUnit32 : Unit32 := unit32 0x2A 0xEF062FCD 5 [0x6F]

/-- `U128` after twenty bytes with seed 42 (example of R129). -/
def twentyUnit128 : Unit128 := unit128 0x2A 0xDCAC506215C459B1 0x72927BFE12440847 20 [0x10, 0x11, 0x12, 0x13]

/-- A record without payload. -/
def bare (cmd : Byte) (seed : Word64) : Command := { cmd := cmd, seed := seed, len := 0, payload := [] }

/-- The state a result holds, or reset. -/
def stateOf : Result → State
  | .next t => t
  | .fault _ => State.reset
  | .refused _ => State.reset

/-- The last response of a result. -/
def rspLast : Result → Option Response
  | .next t => t.responses.getLast?
  | .fault _ => none
  | .refused _ => none

/-! ## Well-formedness -/

/-- A payload of `2^32` bytes does not fit `LENW = 32` (R64). -/
theorem test_wellFormed_refuses_long_write32 :
    (Instr.write32 (List.replicate (2 ^ 32) 0)).wellFormed .w32 = false := by
  simp only [Instr.wellFormed, Instr.payload, List.length_replicate, LenWidth.bits, decide_eq_false_iff_not]
  omega

theorem test_wellFormed_refuses_long_write128 :
    (Instr.write128 (List.replicate (2 ^ 64) 0)).wellFormed .w64 = false := by
  simp only [Instr.wellFormed, Instr.payload, List.length_replicate, LenWidth.bits, decide_eq_false_iff_not]
  omega

theorem test_wellFormed_refuses_long_sumBytes128 :
    (Instr.sumBytes128 (List.replicate (2 ^ 32 + 1) 0)).wellFormed .w32 = false := by
  simp only [Instr.wellFormed, Instr.payload, List.length_replicate, LenWidth.bits, decide_eq_false_iff_not]
  omega

theorem test_wellFormed_refuses_long_checksum32 :
    (Instr.checksum32 0 (List.replicate (2 ^ 32) 0)).wellFormed .w32 = false := by
  simp only [Instr.wellFormed, Instr.payload, List.length_replicate, LenWidth.bits, decide_eq_false_iff_not]
  omega

/-- The longest payload that fits. -/
theorem test_wellFormed_accepts_longest :
    (Instr.write32 (List.replicate (2 ^ 32 - 1) 0)).wellFormed .w32 = true := by
  simp only [Instr.wellFormed, Instr.payload, List.length_replicate, LenWidth.bits, decide_eq_true_eq]
  omega

theorem test_wellFormed_accepts_empty : (Instr.write32 []).wellFormed .w32 = true := by decide

/-- The other check, on the record: a payload of more or fewer than `len` bytes is refused (R64, R186). -/
theorem test_decode_refuses_wrong_length :
    decode { cmd := 0x20, seed := 0, len := 3, payload := [1, 2] } = .error .payloadLengthMismatch ∧
    decode { cmd := 0x81, seed := 0, len := 1, payload := [1, 2] } = .error .payloadLengthMismatch := by decide

/-! ## Decoding: the words of section 6.1, written bit by bit as `OP RSV V` -/

theorem test_decode_create :
    decode (bare 0b00010000#8 0x2A) = .ok (.create32 0x2A) ∧
    decode (bare 0b00010001#8 0x2A) = .ok (.create128 0x2A) := by decide

/-- R64, section 6.5: `seed[63:32]` is read by `CREATE128` only. -/
theorem test_decode_create_upper_seed :
    decode (bare 0b00010000#8 0xDEADBEEF0000002A) = .ok (.create32 0x2A) ∧
    decode (bare 0b00010001#8 0xDEADBEEF0000002A) = .ok (.create128 0xDEADBEEF0000002A) := by decide

theorem test_decode_write :
    decode { cmd := 0b00100000#8, seed := 0, len := 3, payload := [0x68, 0x65, 0x6C] } =
      .ok (.write32 [0x68, 0x65, 0x6C]) ∧
    decode { cmd := 0b00100001#8, seed := 0, len := 7, payload := upTo 7 } = .ok (.write128 [0, 1, 2, 3, 4, 5, 6]) := by
  decide

theorem test_decode_reset :
    decode (bare 0b00110000#8 0) = .ok .reset32 ∧ decode (bare 0b00110001#8 0) = .ok .reset128 := by decide

theorem test_decode_sum :
    decode (bare 0b01000000#8 0) = .ok .sum32 ∧ decode (bare 0b01000001#8 0) = .ok .sum128 := by decide

theorem test_decode_sumBytes :
    decode { cmd := 0b01010000#8, seed := 0, len := 2, payload := [0xAA, 0xBB] } = .ok (.sumBytes32 [0xAA, 0xBB]) ∧
    decode (bare 0b01010001#8 0) = .ok (.sumBytes128 []) := by decide

theorem test_decode_sizes :
    decode (bare 0b01100000#8 0) = .ok .blockSize32 ∧ decode (bare 0b01100001#8 0) = .ok .blockSize128 ∧
    decode (bare 0b01110000#8 0) = .ok .digestSize32 ∧ decode (bare 0b01110001#8 0) = .ok .digestSize128 := by decide

theorem test_decode_checksum :
    decode { cmd := 0b10000000#8, seed := 0x2A, len := 5, payload := hello } = .ok (.checksum32 0x2A hello) ∧
    decode { cmd := 0b10000001#8, seed := 0, len := 5, payload := hello } = .ok (.checksum128 0 hello) := by decide

/-- Section 6.2. -/
theorem test_decode_illegal :
    ∀ w ∈ [0x00#8, 0x01#8, 0x0F#8, 0x12#8, 0x18#8, 0x1E#8, 0x43#8, 0x8F#8, 0x90#8, 0x91#8, 0xF0#8, 0xFF#8],
      decode (bare w 0) = .error .reservedBits ∨ decode (bare w 0) = .error .unassignedOp := by decide

/-- The words of spec/opcode_table.json, with every operand zero. -/
theorem test_decodeTableWord :
    decodeTableWord 8 0x10 = some (.create32 0) ∧ decodeTableWord 8 0x21 = some (.write128 []) ∧
    decodeTableWord 8 0x51 = some (.sumBytes128 []) ∧ decodeTableWord 8 0x80 = some (.checksum32 0 []) ∧
    decodeTableWord 8 0x9A = none := by decide

/-- `encode` gives the record of section 6.1. -/
theorem test_encode :
    encode (.checksum32 0x2A hello) = { cmd := 0b10000000#8, seed := 0x2A, len := 5, payload := hello } ∧
    encode .sum128 = bare 0b01000001#8 0 := by decide

/-! ## The data path: sections 2 and 3 -/

theorem test_kmix32 : kmix32 0x87654321 = 0x5082EDEE ∧ kmix32 0x80000000 = 0xCD64C000 := by decide

theorem test_bmix32 :
    bmix32 0 [0x21, 0x43, 0x65, 0x87] = (0xBB095DB4, 4) ∧ bmix32 0 (upTo 7) = (0x5A7C19DF, 4) := by decide

theorem test_bmix32_two_blocks : bmix32 0 (upTo 8) = (0x32ABD424, 8) := by decide

theorem test_tail32 :
    tail32 0 [0x21, 0x43, 0x65] = 0x17A6636E ∧ tail32 0xDEADBEEF [0x80] = 0xF2FEC53E ∧
    tail32 0x12345678 [] = 0x12345678 := by decide

theorem test_fin32 :
    fin32 0 1 = 0x514E28B7 ∧ fin32 0 0x100000005 = 0xCC0D53CD ∧ fin32 0xFFFFFFFF 0 = 0x81F16F39 := by decide

theorem test_k1mix : k1mix 0x0706050403020100 = 0xDF62D7CBEAB5358E := by decide

theorem test_k2mix : k2mix 0x0F0E0D0C0B0A0908 = 0xC541F873A7AEC42D := by decide

/-- The row whose note says which order mistake it catches. -/
theorem test_bmix128_order :
    bmix128 (1, 2) (List.replicate 16 0) = ((0x000000007ADCE733, 0x000000079E99DEB4), 16) := by decide

theorem test_bmix128_leaves_rest : bmix128 (0, 0) (upTo 31) = ((0xDCAC505EA5C458DF, 0x72927C4BE244042D), 16) := by
  decide

theorem test_tail128 :
    tail128 (0, 0) [1, 2, 3, 4, 5, 6, 7, 8] = (0x84912EA0966DB987, 0) ∧
    tail128 (0, 0) [1, 2, 3, 4, 5, 6, 7, 8, 9] = (0x84912EA0966DB987, 0x89DC47BE9BFA8718) := by decide

theorem test_tail128_longest :
    tail128 (0, 0) [1, 2, 3, 4, 5, 6, 7, 8, 9, 10, 11, 12, 13, 14, 15] =
      (0x84912EA0966DB987, 0x3E9927EB603CDCD6) := by decide

theorem test_fmix64 : fmix64 0x0123456789ABCDEF = 0x87CBFBFE89022CEA := by decide

theorem test_fin128 :
    fin128 (1, 2) 3 = (0xB2E8F14352E1862D, 0x5BD909B89A718A96) ∧
    fin128 (0, 0) 0x100000000 = (0xCF40B33A62ABD11C, 0x807020B159D6A9E0) := by decide

/-- R46: the opposite byte orders of input words and digest bytes. -/
theorem test_byte_orders :
    memRead32 [0, 0x68, 0x65, 0x6C, 0x6C] 1 = 0x6C6C6568 ∧ be32 0xE2DBD2E1 = [0xE2, 0xDB, 0xD2, 0xE1] := by decide

/-! ## One command each: sections 6.3 to 6.5 and the examples of the rules -/

/-- D16: a created unit is created afresh. -/
theorem test_create32_over_created :
    (stateOf (exec (.create32 1) (with32 helloUnit32))).u32 =
      { valid := true, phase := .empty, seed := 1, h := 1, totalLen := 0, pend := [] } := by decide

theorem test_create128_both_halves :
    (stateOf (exec (.create128 0xFFFFFFFFFFFFFFFF) State.reset)).u128 =
      { valid := true, phase := .empty, seed := 0xFFFFFFFFFFFFFFFF, h1 := 0xFFFFFFFFFFFFFFFF,
        h2 := 0xFFFFFFFFFFFFFFFF, totalLen := 0, pend := [] } := by decide

theorem test_write32_completes_pending :
    (stateOf (exec (.write32 [3, 4, 5, 6, 7, 8]) (with32 (unit32 0 0 3 [0, 1, 2])))).u32 =
      unit32 0 0x32ABD424 9 [8] := by decide

theorem test_write32_wraps_totalLen :
    (stateOf (exec (.write32 [0xBB, 0xCC]) (with32 (unit32 0 0x12345678 0xFFFFFFFFFFFFFFFF [0xAA])))).u32 =
      unit32 0 0x12345678 1 [0xAA, 0xBB, 0xCC] := by decide

theorem test_write128_completes_pending :
    (stateOf (exec (.write128 [0x0E, 0x0F, 0x10, 0x11, 0x12, 0x13])
      (with128 (unit128 0x2A 0x2A 0x2A 14 (upTo 14))))).u128 = twentyUnit128 := by decide

theorem test_write128_appends_short :
    (stateOf (exec (.write128 [8, 9, 10, 11, 12, 13, 14]) (with128 (unit128 0 0 0 8 (upTo 8))))).u128 =
      unit128 0 0 0 15 (upTo 15) := by decide

theorem test_write32_value : rspLast (exec (.write32 [0x6C, 0x6F]) (with32 (unit32 0x2A 0x2A 3 [0x68, 0x65, 0x6C]))) =
    some { status := .ok, value := 2, out := [] } := by decide

theorem test_reset32_from_seed :
    (stateOf (exec .reset32 (with32 helloUnit32))).u32 =
      { valid := true, phase := .empty, seed := 0x2A, h := 0x2A, totalLen := 0, pend := [] } := by decide

theorem test_reset128_from_seed :
    (stateOf (exec .reset128 (with128 twentyUnit128))).u128 =
      { valid := true, phase := .empty, seed := 0x2A, h1 := 0x2A, h2 := 0x2A, totalLen := 0, pend := [] } := by decide

theorem test_sum32 : rspLast (exec .sum32 (with32 helloUnit32)) =
    some { status := .ok, value := 0xE2DBD2E1, out := [] } := by decide

theorem test_sum128 : rspLast (exec .sum128 (with128 twentyUnit128)) =
    some { status := .ok, value := 0xE419B1AF598B857A3382BDD3564EC906, out := [] } := by decide

theorem test_sumBytes32 : rspLast (exec (.sumBytes32 [0xAA, 0xBB]) (with32 helloUnit32)) =
    some { status := .ok, value := 0, out := [0xAA, 0xBB, 0xE2, 0xDB, 0xD2, 0xE1] } := by decide

theorem test_sumBytes128 : rspLast (exec (.sumBytes128 []) (with128 twentyUnit128)) =
    some { status := .ok, value := 0, out := [0xE4, 0x19, 0xB1, 0xAF, 0x59, 0x8B, 0x85, 0x7A,
      0x33, 0x82, 0xBD, 0xD3, 0x56, 0x4E, 0xC9, 0x06] } := by decide

theorem test_sizes_uncreated :
    rspLast (exec .blockSize32 State.reset) = some { status := .ok, value := 4, out := [] } ∧
    rspLast (exec .blockSize128 State.reset) = some { status := .ok, value := 16, out := [] } ∧
    rspLast (exec .digestSize32 State.reset) = some { status := .ok, value := 4, out := [] } ∧
    rspLast (exec .digestSize128 State.reset) = some { status := .ok, value := 16, out := [] } := by decide

theorem test_checksum32 : rspLast (exec (.checksum32 0x2A hello) State.reset) =
    some { status := .ok, value := 0xE2DBD2E1, out := [] } := by decide

theorem test_checksum128 : rspLast (exec (.checksum128 0x100000000 hello) State.reset) =
    some { status := .ok, value := 0x5224436DCB6DBC23697B6DEF5A48B94A, out := [] } := by decide

/-- Section 6.3: refused, and `U128` is another unit. -/
theorem test_not_created :
    rspLast (exec (.write32 [0x61, 0x62, 0x63]) (with128 twentyUnit128)) =
      some { status := .notCreated, value := 0, out := [] } ∧
    (stateOf (exec .reset32 (with128 twentyUnit128))).u128 = twentyUnit128 := by decide

/-! ## One step -/

/-- Program P3, step 6: word `0x12` creates nothing. -/
theorem test_step_illegal :
    rspLast (step (withInbox [.command (bare 0x12 0)])) = some { status := .illegalCmd, value := 0, out := [] } ∧
    (stateOf (step (withInbox [.command (bare 0x12 0)]))).u32.valid = false := by decide

theorem test_step_withFetchWord :
    step (State.reset.withFetchWord 8 0x60) = exec .blockSize32 State.reset ∧
    step (State.reset.withFetchWord 8 0x10) = exec (.create32 0) State.reset := ⟨rfl, rfl⟩

/-- R186, 93_implementation_defined.md U3: a broken protocol gives no move. -/
theorem test_step_protocol :
    step (withInbox [.command { cmd := 0x20, seed := 0, len := 2, payload := [1] }]) =
      .fault .payloadLengthMismatch := rfl

/-- R69: an illegal word takes no payload beat, a word of format D takes `len`. -/
theorem test_beats :
    beatsAfter { op := 0x22, seed := 0, len := 5 } = 0 ∧ beatsAfter { op := 0x20, seed := 0, len := 5 } = 5 ∧
    beatsAfter { op := 0x40, seed := 0, len := 5 } = 0 := by decide

theorem test_rsp_codes :
    (rspOf { status := .notCreated, value := 0, out := [] }).1 = 2#2 ∧
    (rspOf { status := .illegalCmd, value := 0, out := [] }).1 = 1#2 ∧
    (rspOf { status := .ok, value := 7, out := [] }) = (0#2, 7) := by decide

/-! ## The statements' hypotheses can be met

One theorem for each statement of Certificates/Slice0/Obligations.lean that has hypotheses, with its name. Where the
statement has several clauses, each clause has its input, at a boundary of its range. -/

/-- A state with both units created. -/
def bothCreated : State := { State.reset with u32 := helloUnit32, u128 := twentyUnit128 }

theorem witness_HardwareResetUncreatesBothUnits :
    { bothCreated with inbox := [HostEvent.hardwareReset] }.inbox = .hardwareReset :: [] := by decide

theorem witness_StepRunsTheDecodedInstruction :
    (withInbox [.command (encode (.write32 hello))]).inbox = .command (encode (.write32 hello)) :: [] ∧
    decode (encode (.write32 hello)) = .ok (.write32 hello) ∧
    (Instr.write32 hello).wellFormed (withInbox [.command (encode (.write32 hello))]).lenw = true := by decide

/-- `RSV = 001` with a legal `OP`, and the first `OP` above the table. -/
theorem witness_IllegalWordsAreAnsweredAndChangeNothing :
    ∀ w ∈ [0x12#8, 0x90#8, 0x0F#8, 0xFF#8],
      (withInbox [.command (bare w 7)]).inbox = .command (bare w 7) :: [] ∧
      (bare w 7).cmd ∉ [0x10#8, 0x11#8, 0x20#8, 0x21#8, 0x30#8, 0x31#8, 0x40#8, 0x41#8,
        0x50#8, 0x51#8, 0x60#8, 0x61#8, 0x70#8, 0x71#8, 0x80#8, 0x81#8] := by decide

/-- The clauses with a premise beside the word itself; the words exclude each other. -/
theorem witness_SixteenWordsDecodeWithTheirOperands :
    ∀ w ∈ [0x20#8, 0x21#8, 0x50#8, 0x51#8, 0x80#8, 0x81#8], ∀ p ∈ [[], hello],
      ({ cmd := w, seed := 0xDEADBEEF0000002A, len := BitVec.ofNat 64 p.length, payload := p } : Command).payload.length =
        (BitVec.ofNat 64 p.length).toNat := by decide

/-- A format N record, one of format S with `V = 0` and one of format D, each beside a record that differs from it in
every operand it does not read. -/
theorem witness_UnreadOperandsChangeNothing :
    ∀ q ∈ ([({ cmd := 0x40, seed := 1, len := 2, payload := [3] }, { cmd := 0x40, seed := 4, len := 5, payload := [] }),
        ({ cmd := 0x10, seed := 0x10000002A, len := 2, payload := [3] }, { cmd := 0x10, seed := 0x2A, len := 0, payload := [] }),
        ({ cmd := 0x21, seed := 1, len := 5, payload := hello }, { cmd := 0x21, seed := 2, len := 5, payload := hello })] :
        List (Command × Command)),
      q.1.cmd = q.2.cmd ∧ (q.1.cmd ∈ [0x11#8, 0x81#8] → q.1.seed = q.2.seed) ∧
      (q.1.cmd ∈ [0x10#8, 0x80#8] → q.1.seed.extractLsb' 0 32 = q.2.seed.extractLsb' 0 32) ∧
      (q.1.cmd ∈ [0x20#8, 0x21#8, 0x50#8, 0x51#8, 0x80#8, 0x81#8] →
        q.1.len = q.2.len ∧ q.1.payload = q.2.payload) := by decide

theorem witness_DecodeOfEncodeIsTheInstruction :
    ∀ i ∈ [Instr.create32 0xFFFFFFFF, .create128 0xFFFFFFFFFFFFFFFF, .write128 (upTo 17), .reset32,
        .checksum32 1 [], .checksum128 1 hello], i.wellFormed .w64 = true := by decide

/-- One word of each format. -/
theorem witness_EncodeOfDecodeRestoresWhatWasRead :
    decode (bare 0x11 5) = .ok (.create128 5) ∧ decode (bare 0x10 0x100000005) = .ok (.create32 5) ∧
    decode { cmd := 0x50, seed := 0, len := 5, payload := hello } = .ok (.sumBytes32 hello) ∧
    decode { cmd := 0x80, seed := 7, len := 0, payload := [] } = .ok (.checksum32 7 []) := by decide

/-- A record without payload, an illegal one, and one with payload. -/
theorem witness_PayloadStreamStaysInStep :
    ∀ c ∈ ([bare 0x10 5, { cmd := 0x22, seed := 0, len := 9, payload := [] },
        { cmd := 0x20, seed := 0, len := 5, payload := hello }] : List Command),
      c.payload.length = beatsAfter (headerOf c) := by decide

/-- The last beat and the one before it. -/
theorem witness_OutputBeatsMarkOnlyTheFinalByte :
    (doutOf [1, 2, 3])[2]? = some { byte := 3, last := true } ∧
    (doutOf [1, 2, 3])[1]? = some { byte := 2, last := false } := by decide

/-- The longest payload that still only appends, the shortest that completes a block, and the example of R124. -/
theorem witness_Write32TakesTheFiveSteps :
    (with32 helloUnit32).u32.valid = true ∧
    (with32 helloUnit32).u32.pend.length + [1, 2].length < 4 ∧
    4 ≤ (with32 helloUnit32).u32.pend.length + [1, 2, 3].length ∧
    4 ≤ (unit32 0x2A 0x2A 3 [0x68, 0x65, 0x6C]).pend.length + [0x6C, (0x6F : Byte)].length ∧
    1 = 4 - (unit32 0x2A 0x2A 3 [0x68, 0x65, 0x6C]).pend.length ∧
    (0xEF062FCD#32, 4) = bmix32 0x2A ([0x68, 0x65, 0x6C] ++ [0x6C, 0x6F].take 1) ∧
    (0xEF062FCD#32, 0) = bmix32 0xEF062FCD ([0x6C, 0x6F].drop 1) := by decide

/-- Likewise, with the example of R125. -/
theorem witness_Write128TakesTheFiveSteps :
    (with128 twentyUnit128).u128.valid = true ∧
    (with128 twentyUnit128).u128.pend.length + (upTo 11).length < 16 ∧
    16 ≤ (with128 twentyUnit128).u128.pend.length + (upTo 12).length ∧
    16 ≤ (unit128 0x2A 0x2A 0x2A 14 (upTo 14)).pend.length + [14, 15, 16, 17, 18, (19 : Byte)].length ∧
    2 = 16 - (unit128 0x2A 0x2A 0x2A 14 (upTo 14)).pend.length ∧
    ((0xDCAC506215C459B1, 0x72927BFE12440847), 16) =
      bmix128 (0x2A, 0x2A) (upTo 14 ++ [14, 15, 16, 17, 18, 19].take 2) ∧
    ((0xDCAC506215C459B1, 0x72927BFE12440847), 0) =
      bmix128 (0xDCAC506215C459B1, 0x72927BFE12440847) ([14, 15, 16, 17, 18, 19].drop 2) := by decide

theorem witness_Write32FoldsEveryCompleteBlock :
    (with32 (unit32 0 0 3 [0, 1, 2])).u32.valid = true ∧ (with32 (unit32 0 0 3 [0, 1, 2])).u32.pend.length < 4 ∧
    upTo 9 = (with32 (unit32 0 0 3 [0, 1, 2])).u32.pend ++ [3, 4, 5, 6, 7, 8] := by decide

theorem witness_Write128FoldsEveryCompleteBlock :
    (with128 (unit128 0 0 0 15 (upTo 15))).u128.valid = true ∧
    (with128 (unit128 0 0 0 15 (upTo 15))).u128.pend.length < 16 ∧
    upTo 17 = (with128 (unit128 0 0 0 15 (upTo 15))).u128.pend ++ [15, 16] := by decide

theorem witness_ByteCountersWrap : bothCreated.u32.valid = true ∧ bothCreated.u128.valid = true := by decide

/-- Each unit un-created while the other one exists. -/
theorem witness_UncreatedUnitsRefuseAndChangeNothing :
    (with128 twentyUnit128).u32.valid = false ∧ (with32 helloUnit32).u128.valid = false := by decide

theorem witness_ResetRestartsTheUnitFromItsSeed :
    bothCreated.u32.valid = true ∧ bothCreated.u128.valid = true := by decide

/-- With the digest of the example of R129. -/
theorem witness_SumReturnsTheDigestOfACopy :
    bothCreated.u32.valid = true ∧ bothCreated.u128.valid = true ∧
    ((0xE419B1AF598B857A, 0x3382BDD3564EC906) : Pair64) =
      fin128 (tail128 (bothCreated.u128.h1, bothCreated.u128.h2) bothCreated.u128.pend) bothCreated.u128.totalLen := by
  decide

/-- With the digest of the example of R128. -/
theorem witness_SumBytesAppendsTheDigestBigEndian :
    bothCreated.u32.valid = true ∧ bothCreated.u128.valid = true ∧
    0xE2DBD2E1 = fin32 (tail32 bothCreated.u32.h bothCreated.u32.pend) bothCreated.u32.totalLen ∧
    ((0xE419B1AF598B857A, 0x3382BDD3564EC906) : Pair64) =
      fin128 (tail128 (bothCreated.u128.h1, bothCreated.u128.h2) bothCreated.u128.pend) bothCreated.u128.totalLen := by
  decide

theorem witness_SizesAreAnsweredInEveryState :
    Instr.digestSize32 ∈ [Instr.blockSize32, .digestSize32] ∧
    Instr.digestSize128 ∈ [Instr.blockSize128, .digestSize128] := by decide

/-- With the digest of section 5.3 for twenty bytes and seed `0x2A`. -/
theorem witness_ChecksumReturnsTheDigestAndTouchesNothing :
    hello.length < 2 ^ State.reset.lenw.bits ∧ hello.length < 2 ^ (State.resetWith .w32).lenw.bits ∧
    (upTo 20).length < 2 ^ State.reset.lenw.bits ∧
    ((0xE419B1AF598B857A, 0x3382BDD3564EC906) : Pair64) =
      fin128 (tail128 (bmix128 (0x2A, 0x2A) (upTo 20)).1 ((upTo 20).drop (16 * ((upTo 20).length / 16))))
        (BitVec.ofNat 64 (upTo 20).length) := by decide

/-- The steps of section 2.1. -/
theorem witness_Kmix32MultipliesRotatesMultiplies :
    0x5E350A71 = mulN 32 (0x87654321#32).toNat 0xcc9e2d51 ∧ 0x8538AF1A = rotlN 32 0x5E350A71 15 := by decide

theorem witness_Bmix32FoldsBlocksInOrder :
    [1, 2, (3 : Byte)].length < 4 ∧ 0x87654321#32 = 0x87#8 ++ 0x65#8 ++ 0x43#8 ++ 0x21#8 := by decide

/-- The longest tail and the empty one. -/
theorem witness_Tail32FoldsTheBytesPresent :
    [0x21, 0x43, (0x65 : Byte)].length ≤ 3 ∧
    (∀ j < 4, (0x00654321#32).extractLsb' (8 * j) 8 = [0x21, 0x43, (0x65 : Byte)].getD j 0) ∧
    (∀ j < 4, (0#32).extractLsb' (8 * j) 8 = ([] : List Byte).getD j 0) := by decide

/-- The steps of section 2.4, second row. -/
theorem witness_Fin32MixesTheLengthAndAvalanches :
    0x00000001 = (0#32).toNat ^^^ truncN 32 (1#64).toNat ∧ 0x00000001 = 0x00000001 ^^^ shrN 0x00000001 16 ∧
    0x85EBCA6B = mulN 32 0x00000001 0x85ebca6b ∧ 0x85EFE535 = 0x85EBCA6B ^^^ shrN 0x85EBCA6B 13 ∧
    0x514E79F9 = mulN 32 0x85EFE535 0xc2b2ae35 := by decide

/-- The steps of section 3.1. -/
theorem witness_K1mixAndK2mixMultiplyRotateMultiply :
    0xC87BF2E568FDD500 = mulN 64 (0x0706050403020100#64).toNat 0x87c37b91114253d5 ∧
    0xB47EEA80643DF972 = rotlN 64 0xC87BF2E568FDD500 31 ∧
    0x93C6A97CE45212F8 = mulN 64 (0x0F0E0D0C0B0A0908#64).toNat 0x4cf5ad432745937f ∧
    0xC8A425F1278D52F9 = rotlN 64 0x93C6A97CE45212F8 33 := by decide

/-- The steps of section 3.2, second row. -/
theorem witness_Bmix128FoldsBlocksInOrder :
    (upTo 15).length < 16 ∧ (upTo 16).length = 16 ∧
    (∀ j < 8, (0x0706050403020100#64).extractLsb' (8 * j) 8 = (upTo 16).getD j 0) ∧
    (∀ j < 8, (0x0F0E0D0C0B0A0908#64).extractLsb' (8 * j) 8 = (upTo 16).getD (8 + j) 0) ∧
    0xDCAC505EA5C458DF = ((0#64 ^^^ k1mix 0x0706050403020100).rotateLeft 27 + 0) * 5 + 0x52dce729 ∧
    0x72927C4BE244042D =
      ((0#64 ^^^ k2mix 0x0F0E0D0C0B0A0908).rotateLeft 31 + 0xDCAC505EA5C458DF) * 5 + 0x38495ab5 := by decide

/-- Eight bytes (no `k2`), nine and fifteen. -/
theorem witness_Tail128FoldsTheBytesPresent :
    ∀ q ∈ ([(8, 0x0706050403020100, 0), (9, 0x0706050403020100, 8), (15, 0x0706050403020100, 0x000E0D0C0B0A0908)] :
        List (Nat × Word64 × Word64)),
      (upTo q.1).length ≤ 15 ∧ (∀ j < 8, q.2.1.extractLsb' (8 * j) 8 = (upTo q.1).getD j 0) ∧
      (∀ j < 8, q.2.2.extractLsb' (8 * j) 8 = (upTo q.1).getD (8 + j) 0) := by decide

/-- The steps of section 3.4, second row. -/
theorem witness_Fmix64Avalanches :
    0x0000000000000001 = (1#64).toNat ^^^ shrN (1#64).toNat 33 ∧
    0xFF51AFD7ED558CCD = mulN 64 0x0000000000000001 0xff51afd7ed558ccd ∧
    0xFF51AFD792FD5B26 = 0xFF51AFD7ED558CCD ^^^ shrN 0xFF51AFD7ED558CCD 33 ∧
    0xB456BCFC6EE99552 = mulN 64 0xFF51AFD792FD5B26 0xc4ceb9fe1a85ec53 := by decide

/-- The steps of the example of R106. -/
theorem witness_Fin128CrossAddsAvalanchesAndSwapsHalves :
    0x3#64 = (1#64 ^^^ 3) + (2#64 ^^^ 3) ∧ 0x4#64 = (2#64 ^^^ 3) + 0x3 ∧
    0x52E1862DB2E8F143 = fmix64 0x3 + fmix64 0x4 ∧ 0x9A718A965BD909B8 = fmix64 0x4 + 0x52E1862DB2E8F143 := by decide

/-- The last byte of each word, at an odd offset. -/
theorem witness_WordsAreReadLittleEndianAtAnyOffset :
    (upTo 9)[1 + 3]? = some 4 ∧ 3 < 4 ∧ 1 + 4 ≤ (upTo 9).length ∧
    (upTo 9)[1 + 7]? = some 8 ∧ 7 < 8 ∧ 1 + 8 ≤ (upTo 9).length := by decide

theorem witness_DigestsAgreeForBothLengthWidths : (upTo 17).length < 2 ^ 32 := by decide

theorem witness_Unit32HoldsTheConcatenation : upTo 5 = [[0, 1, 2], [], [3, 4]].flatten := by decide

theorem witness_Unit128HoldsTheConcatenation :
    upTo 17 = [upTo 16, [], [16]].flatten ∧
    ((0xDCAC505EA5C458DF, 0x72927C4BE244042D) : Pair64) =
      (bmix128 (0, 0) ((upTo 17).take (16 * ((upTo 17).length / 16)))).1 := by decide

/-- With the digest of section 5.1 for seventeen bytes. -/
theorem witness_ChunkingDoesNotChangeTheDigest :
    [[0, 1, 2], [], [3, (4 : Byte)]].flatten.length < 2 ^ State.reset.lenw.bits ∧
    [upTo 16, [], [16]].flatten.length < 2 ^ (State.resetWith .w32).lenw.bits ∧
    ((0x9FE7C20E5C76F40F, 0x9EDAA824C15F026B) : Pair64) =
      digest128 (State.resetWith .w32).lenw 0 [upTo 16, [], [16]].flatten := by decide

/-- A single write, and a split. -/
theorem witness_ChecksumEqualsStreaming :
    State.reset.lenw = bothCreated.lenw ∧ hello.length < 2 ^ State.reset.lenw.bits ∧
    [hello].flatten = hello ∧ [[0x68], [], [0x65, 0x6C, 0x6C, 0x6F]].flatten = hello := by decide

theorem witness_ResetThenWritesIsFreshThenWrites :
    bothCreated.u32.valid = true ∧ bothCreated.u128.valid = true := by decide

theorem witness_DigestQueriesAreStable : bothCreated.u32.valid = true ∧ bothCreated.u128.valid = true := by decide

/-- Two states that differ in everything but the unit read. -/
theorem witness_ResponsesDependOnTheirOwnUnitOnly :
    (with32 helloUnit32).lenw = bothCreated.lenw ∧
    (Instr.sum32.variant = .v32 → (with32 helloUnit32).u32 = bothCreated.u32) ∧
    (Instr.sum32.variant = .v128 → (with32 helloUnit32).u128 = bothCreated.u128) := by decide

theorem witness_CommandsWriteOnlyTheirOwnUnit :
    Instr.sum32.variant = .v32 ∧ Instr.reset128.variant = .v128 ∧
    (Instr.checksum32 0 []).op ∈ [Op.sum, .sumBytes, .blockSize, .digestSize, .checksum] := by decide

theorem witness_EveryCommandAnswersOnceAndCannotFail :
    (Instr.sum32.variant = .v32 → (with32 helloUnit32).u32.valid = true) ∧
    (Instr.sum32.variant = .v128 → (with32 helloUnit32).u128.valid = true) := by decide

theorem witness_OnlyCreateSetsAndOnlyHardwareResetClearsValid :
    step { bothCreated with inbox := [.hardwareReset] } = .next bothCreated.hardwareReset ∧
    { bothCreated with inbox := [HostEvent.hardwareReset] }.u32.valid = true ∧
    bothCreated.hardwareReset.u32.valid = false ∧
    { bothCreated with inbox := [HostEvent.hardwareReset] }.u128.valid = true ∧
    bothCreated.hardwareReset.u128.valid = false := ⟨rfl, rfl, rfl, rfl, rfl⟩

/-- One input for each clause with a premise on the state. -/
theorem witness_PhaseFollowsCreateResetAndWrite :
    bothCreated.u32.valid = true ∧ bothCreated.u128.valid = true ∧
    State.reset.u32.valid = false ∧ State.reset.u128.valid = false ∧
    Instr.reset32.op ∈ [Op.reset, .write] ∧ (Instr.write128 []).op ∈ [Op.reset, .write] ∧
    Instr.reset32.variant = .v32 ∧ (Instr.write128 []).variant = .v128 ∧
    Instr.sum32.op ∉ [Op.create, .reset, .write] := by decide

/-- A hardware reset lies between. -/
theorem witness_ChecksumResponseIsTheSameLater :
    (Instr.checksum128 5 hello).op = .checksum ∧
    Host.Core.run core 1 { bothCreated with inbox := [.hardwareReset] } = .next bothCreated.hardwareReset :=
  ⟨rfl, rfl⟩

theorem witness_IdleEngineKeepsItsState : bothCreated.inbox = [] := by decide

/-- A step that writes both the hash and the pending bytes. -/
theorem witness_StepKeepsTheInvariant :
    { bothCreated with inbox := [HostEvent.command (encode (.write32 hello))] }.Inv ∧
    step { bothCreated with inbox := [.command (encode (.write32 hello))] } = exec (.write32 hello) bothCreated ∧
    exec (.write32 hello) bothCreated = .next (stateOf (exec (.write32 hello) bothCreated)) :=
  ⟨by decide, rfl, rfl⟩

theorem witness_SafeRunsNeverStopAndRecordNoRefusal :
    { bothCreated with inbox := [HostEvent.command (encode (.write32 hello)), .command (encode .sum128)] }.Safe := by
  decide

theorem witness_StepTakesOneEventAndAnswersInOrder :
    step { bothCreated with inbox := [.command (encode .sum32), .hardwareReset] } =
      .next (stateOf (exec .sum32 { bothCreated with inbox := [.hardwareReset] })) := rfl

theorem witness_RunOverRecordsExecutesTheCommandsInOrder :
    ∀ i ∈ [Instr.create32 5, .write32 hello, .sum32], i.wellFormed State.reset.lenw = true := by decide

/-- Engine 0 takes a step; engine 1 is the other. -/
theorem witness_EnginesSideBySideDoNotInterfere :
    0 ≠ 1 ∧ bankStep 0 [State.reset.withFetchWord 8 0x10, bothCreated] =
      some [stateOf (exec (.create32 0) State.reset), bothCreated] := ⟨by decide, rfl⟩

end Sys2Proof.Tests
end

