-- ==== Sys2Proof/Proofs/Scope.lean ====
section
/-! The family `00_scope.md`: the byte counters advance modulo `2^LENW` (R5), and the engines of a bank are
independent (R6, R172). -/

namespace Sys2Proof.Machine

/-! ## The byte counters -/

@[simp] theorem answer_u32 (v : BitVec 128) (s : State) : (s.answer v).u32 = s.u32 := rfl

@[simp] theorem answer_u128 (v : BitVec 128) (s : State) : (s.answer v).u128 = s.u128 := rfl

theorem exec_write32_created {s : State} (p : List Byte) (h : s.u32.valid = true) :
    exec (.write32 p) s = .next ((s.setU32 (s.u32.write s.lenw p)).answer (valueOfLen p.length)) :=
  ifCreated32_created _ h

theorem exec_write128_created {s : State} (p : List Byte) (h : s.u128.valid = true) :
    exec (.write128 p) s = .next ((s.setU128 (s.u128.write s.lenw p)).answer (valueOfLen p.length)) :=
  ifCreated128_created _ h

/-- Settles O19: a write on a created unit counts with `addLen`, which wraps at `2^LENW`. -/
theorem byteCountersWrap : Obligations.ByteCountersWrap := by
  intro s p
  refine ⟨fun h => ⟨_, exec_write32_created p h, ?_⟩, fun h => ⟨_, exec_write128_created p h, ?_⟩⟩
  · rw [answer_u32, setU32_u32, write32_totalLen, addLen_toNat]
  · rw [answer_u128, setU128_u128, write128_totalLen, addLen_toNat]

/-! ## Banks of engines -/

/-- A bank steps at `k` exactly where there is an engine `k` whose own step answers a state, which replaces it. -/
theorem bankStep_eq_some_iff {k : Nat} {b b' : List State} :
    bankStep k b = some b' ↔ ∃ s t, b[k]? = some s ∧ step s = .next t ∧ b.set k t = b' := by
  rcases hk : b[k]? with _ | s
  · simp [bankStep, hk]
  · rcases hs : step s with t | f | r <;> simp [bankStep, hk, hs]

theorem bankStep_getElem?_ne {b b' : List State} {j k : Nat} (hjk : j ≠ k) (h : bankStep j b = some b') :
    b'[k]? = b[k]? := by
  obtain ⟨_, _, _, _, rfl⟩ := bankStep_eq_some_iff.1 h
  exact List.getElem?_set_ne hjk

/-- Two successive steps of different engines can be taken in the other order, with the same final bank: neither step
changes the state the other one reads or writes. -/
theorem bankStep_swap {b b₁ c : List State} {j k : Nat} (hjk : j ≠ k) (hj : bankStep j b = some b₁)
    (hk : bankStep k b₁ = some c) : ∃ b₂, bankStep k b = some b₂ ∧ bankStep j b₂ = some c := by
  have frame := bankStep_getElem?_ne hjk hj
  obtain ⟨s, t, hs, hst, rfl⟩ := bankStep_eq_some_iff.1 hj
  obtain ⟨u, v, hu, huv, rfl⟩ := bankStep_eq_some_iff.1 hk
  have stepK : bankStep k b = some (b.set k v) := bankStep_eq_some_iff.2 ⟨u, v, frame ▸ hu, huv, rfl⟩
  have atJ : (b.set k v)[j]? = some s := (bankStep_getElem?_ne hjk.symm stepK).trans hs
  exact ⟨_, stepK, bankStep_eq_some_iff.2 ⟨s, t, atJ, hst, (List.set_comm t v hjk).symm⟩⟩

/-- Settles O56: the banks reached in one order are those reached in the other. -/
theorem enginesSideBySideDoNotInterfere : Obligations.EnginesSideBySideDoNotInterfere := by
  refine ⟨fun b j k hjk => Option.ext fun c => ?_, fun b b' j k => bankStep_getElem?_ne⟩
  simp only [Option.bind_eq_some_iff]
  constructor
  · rintro ⟨_, hj, hk⟩
    exact bankStep_swap hjk hj hk
  · rintro ⟨_, hk, hj⟩
    exact bankStep_swap hjk.symm hk hj

end Sys2Proof.Machine
end

section
/-! The family `10_state.md`: what a command does to each unit (R20 to R26), the invariant between commands (R25
items 1 and 4) and the concatenation a unit holds (R25 items 1 to 4). -/

namespace Sys2Proof.Machine

/-! ## Fields of an answered state -/

@[simp] theorem answer_lenw (v : BitVec 128) (s : State) : (s.answer v).lenw = s.lenw := rfl

/-! ## What a command leaves in each unit -/

/-- What the command `i` leaves in `U32` (R62, R120 step 3): its own `CREATE`, and `WRITE` and `RESET` while it is
created, write it; every other command keeps it. `exec_eq_after` ties this to `exec`. -/
def Unit32.after (w : LenWidth) (i : Instr) (u : Unit32) : Unit32 :=
  match i with
  | .create32 seed => u.create seed
  | .write32 p => if u.valid then u.write w p else u
  | .reset32 => if u.valid then u.restart else u
  | _ => u

/-- What the command `i` leaves in `U128`. -/
def Unit128.after (w : LenWidth) (i : Instr) (u : Unit128) : Unit128 :=
  match i with
  | .create128 seed => u.create seed
  | .write128 p => if u.valid then u.write w p else u
  | .reset128 => if u.valid then u.restart else u
  | _ => u

@[simp] theorem after32_create32 (w : LenWidth) (seed : Word32) (u : Unit32) :
    u.after w (.create32 seed) = u.create seed := rfl
theorem after32_write32 {u : Unit32} (h : u.valid = true) (w : LenWidth) (p : List Byte) :
    u.after w (.write32 p) = u.write w p := if_pos h
theorem after32_reset32 {u : Unit32} (h : u.valid = true) (w : LenWidth) : u.after w .reset32 = u.restart := if_pos h

@[simp] theorem after128_create128 (w : LenWidth) (seed : Word64) (u : Unit128) :
    u.after w (.create128 seed) = u.create seed := rfl
theorem after128_write128 {u : Unit128} (h : u.valid = true) (w : LenWidth) (p : List Byte) :
    u.after w (.write128 p) = u.write w p := if_pos h
theorem after128_reset128 {u : Unit128} (h : u.valid = true) (w : LenWidth) :
    u.after w .reset128 = u.restart := if_pos h

/-- A command can change `U32` only if it selects it and is `CREATE`, or `WRITE` or `RESET` of a created unit. -/
theorem after32_eq_self {i : Instr} {u : Unit32} (w : LenWidth)
    (h : i.variant = .v32 → i.op ∈ [Op.create, .reset, .write] → i.op ≠ .create ∧ u.valid = false) :
    u.after w i = u := by
  cases i with
  | create32 seed => exact absurd rfl (h rfl (by decide : Op.create ∈ _)).1
  | write32 p => exact if_neg (Bool.eq_false_iff.1 (h rfl (by decide : Op.write ∈ _)).2)
  | reset32 => exact if_neg (Bool.eq_false_iff.1 (h rfl (by decide)).2)
  | _ => rfl

/-- The same for `U128`. -/
theorem after128_eq_self {i : Instr} {u : Unit128} (w : LenWidth)
    (h : i.variant = .v128 → i.op ∈ [Op.create, .reset, .write] → i.op ≠ .create ∧ u.valid = false) :
    u.after w i = u := by
  cases i with
  | create128 seed => exact absurd rfl (h rfl (by decide : Op.create ∈ _)).1
  | write128 p => exact if_neg (Bool.eq_false_iff.1 (h rfl (by decide : Op.write ∈ _)).2)
  | reset128 => exact if_neg (Bool.eq_false_iff.1 (h rfl (by decide)).2)
  | _ => rfl

theorem after32_of_variant {i : Instr} (hv : i.variant = .v128) (w : LenWidth) (u : Unit32) : u.after w i = u :=
  after32_eq_self w fun hv' => nomatch hv.symm.trans hv'

theorem after128_of_variant {i : Instr} (hv : i.variant = .v32) (w : LenWidth) (u : Unit128) : u.after w i = u :=
  after128_eq_self w fun hv' => nomatch hv.symm.trans hv'

theorem after32_of_op {i : Instr} (ho : i.op ∉ [Op.create, .reset, .write]) (w : LenWidth) (u : Unit32) :
    u.after w i = u :=
  after32_eq_self w fun _ ho' => absurd ho' ho

theorem after128_of_op {i : Instr} (ho : i.op ∉ [Op.create, .reset, .write]) (w : LenWidth) (u : Unit128) :
    u.after w i = u :=
  after128_eq_self w fun _ ho' => absurd ho' ho

theorem after32_of_uncreated {i : Instr} {u : Unit32} (h : u.valid = false) (ho : i.op ≠ .create) (w : LenWidth) :
    u.after w i = u :=
  after32_eq_self w fun _ _ => ⟨ho, h⟩

theorem after128_of_uncreated {i : Instr} {u : Unit128} (h : u.valid = false) (ho : i.op ≠ .create) (w : LenWidth) :
    u.after w i = u :=
  after128_eq_self w fun _ _ => ⟨ho, h⟩

theorem after32_valid_iff (w : LenWidth) (i : Instr) (u : Unit32) :
    (u.after w i).valid = true ↔ u.valid = true ∨ ∃ seed, i = .create32 seed := by
  cases i with
  | create32 seed => simp
  | write32 p =>
    cases h : u.valid
    · rw [after32_of_uncreated h (by simp [Instr.op])]; simp [h]
    · rw [after32_write32 h]; simp [h]
  | reset32 =>
    cases h : u.valid
    · rw [after32_of_uncreated h (by decide)]; simp [h]
    · rw [after32_reset32 h]; simp [h]
  | _ => exact (or_iff_left (by simp)).symm

theorem after128_valid_iff (w : LenWidth) (i : Instr) (u : Unit128) :
    (u.after w i).valid = true ↔ u.valid = true ∨ ∃ seed, i = .create128 seed := by
  cases i with
  | create128 seed => simp
  | write128 p =>
    cases h : u.valid
    · rw [after128_of_uncreated h (by simp [Instr.op])]; simp [h]
    · rw [after128_write128 h]; simp [h]
  | reset128 =>
    cases h : u.valid
    · rw [after128_of_uncreated h (by decide)]; simp [h]
    · rw [after128_reset128 h]; simp [h]
  | _ => exact (or_iff_left (by simp)).symm

theorem response_inv_of_ok {r : Response} (h : r.status = .ok) : r.Inv := fun hn => absurd h hn

theorem op_ne_create_of_refused {o : Op} (h : o ∈ [Op.write, .reset, .sum, .sumBytes]) : o ≠ .create := by
  rintro rfl
  revert h
  decide

theorem op_keeps_of_query {o : Op} (h : o ∈ [Op.sum, .sumBytes, .blockSize, .digestSize, .checksum]) :
    o ∉ [Op.create, .reset, .write] := by
  revert h
  cases o <;> decide

/-- Every command answers the state with `after` of both units and one more response, which keeps R68. -/
theorem exec_eq_after (i : Instr) (s : State) : ∃ r : Response, r.Inv ∧ exec i s = .next { s with
    u32 := s.u32.after s.lenw i
    u128 := s.u128.after s.lenw i
    responses := s.responses ++ [r] } := by
  obtain ⟨t, e, d⟩ := exec_does i s
  rw [e]
  cases d with
  | refused32 i h hv ho =>
    refine ⟨⟨.notCreated, 0, []⟩, fun _ => ⟨rfl, rfl⟩, ?_⟩
    rw [after32_of_uncreated h (op_ne_create_of_refused ho), after128_of_variant hv]
    rfl
  | refused128 i h hv ho =>
    refine ⟨⟨.notCreated, 0, []⟩, fun _ => ⟨rfl, rfl⟩, ?_⟩
    rw [after128_of_uncreated h (op_ne_create_of_refused ho), after32_of_variant hv]
    rfl
  | create32 seed => exact ⟨⟨.ok, 0, []⟩, response_inv_of_ok rfl, rfl⟩
  | create128 seed => exact ⟨⟨.ok, 0, []⟩, response_inv_of_ok rfl, rfl⟩
  | write32 p h => exact ⟨⟨.ok, valueOfLen p.length, []⟩, response_inv_of_ok rfl, by rw [after32_write32 h]; rfl⟩
  | write128 p h => exact ⟨⟨.ok, valueOfLen p.length, []⟩, response_inv_of_ok rfl, by rw [after128_write128 h]; rfl⟩
  | reset32 h => exact ⟨⟨.ok, 0, []⟩, response_inv_of_ok rfl, by rw [after32_reset32 h]; rfl⟩
  | reset128 h => exact ⟨⟨.ok, 0, []⟩, response_inv_of_ok rfl, by rw [after128_reset128 h]; rfl⟩
  | query i ho r hr =>
    refine ⟨r, response_inv_of_ok hr, ?_⟩
    rw [after32_of_op (op_keeps_of_query ho), after128_of_op (op_keeps_of_query ho)]
    rfl

/-- Settles O44: `after` keeps the unit that is not selected, and a query keeps both. -/
theorem commandsWriteOnlyTheirOwnUnit : Obligations.CommandsWriteOnlyTheirOwnUnit := by
  intro i s
  obtain ⟨r, -, e⟩ := exec_eq_after i s
  refine ⟨_, e, fun hv => after128_of_variant hv _ _, fun hv => after32_of_variant hv _ _, fun ho => ?_, rfl, rfl, rfl⟩
  exact ⟨after32_of_op (op_keeps_of_query ho) _ _, after128_of_op (op_keeps_of_query ho) _ _⟩

/-- Settles O47: the phase of `after`, by the command. -/
theorem phaseFollowsCreateResetAndWrite : Obligations.PhaseFollowsCreateResetAndWrite := by
  intro i s
  obtain ⟨r, -, e⟩ := exec_eq_after i s
  have hne {o : Op} (ho : o ∈ [Op.reset, .write]) : o ≠ .create := by rintro rfl; simp at ho
  refine ⟨_, e, ?_, ?_, ?_, ?_, ?_, ?_, ?_, ?_, ?_, ?_, ?_⟩
  · rintro ⟨seed, rfl⟩; rfl
  · rintro rfl h; rw [after32_reset32 h]; rfl
  · rintro ⟨p, rfl⟩ h; rw [after32_write32 h]; rfl
  · rintro ⟨seed, rfl⟩; rfl
  · rintro rfl h; rw [after128_reset128 h]; rfl
  · rintro ⟨p, rfl⟩ h; rw [after128_write128 h]; rfl
  · intro hv; rw [after128_of_variant hv]
  · intro hv; rw [after32_of_variant hv]
  · intro ho; rw [after32_of_op ho, after128_of_op ho]; exact ⟨rfl, rfl⟩
  · intro ho _ h; rw [after32_of_uncreated h (hne ho)]
  · intro ho _ h; rw [after128_of_uncreated h (hne ho)]

/-- A command keeps the units that are created. -/
theorem exec_keeps_valid {i : Instr} {s t : State} (h : exec i s = .next t) :
    (s.u32.valid = true → t.u32.valid = true) ∧ (s.u128.valid = true → t.u128.valid = true) := by
  obtain ⟨r, -, e⟩ := exec_eq_after i s
  cases e.symm.trans h
  exact ⟨fun hv => (after32_valid_iff _ _ _).2 (.inl hv), fun hv => (after128_valid_iff _ _ _).2 (.inl hv)⟩

/-- A step that takes no hardware reset keeps the units that are created. -/
theorem step_keeps_valid {s t : State} (h : step s = .next t) :
    (∃ rest, s.inbox = .hardwareReset :: rest) ∨
      (s.u32.valid = true → t.u32.valid = true) ∧ (s.u128.valid = true → t.u128.valid = true) := by
  rcases step_cases s with ⟨_, e⟩ | ⟨rest, hin, _⟩ | ⟨c, rest, _, ⟨i, _, _, e⟩ | ⟨_, e⟩ | ⟨_, e⟩ | ⟨_, _, _, e⟩⟩
  · cases e.symm.trans h; exact .inr ⟨id, id⟩
  · exact .inl ⟨rest, hin⟩
  · exact .inr (exec_keeps_valid (s := { s with inbox := rest }) (e.symm.trans h))
  · cases e.symm.trans h; exact .inr ⟨id, id⟩
  · cases e.symm.trans h
  · cases e.symm.trans h

/-- Settles O46, by `after32_valid_iff` and `after128_valid_iff`. -/
theorem onlyCreateSetsAndOnlyHardwareResetClearsValid :
    Obligations.OnlyCreateSetsAndOnlyHardwareResetClearsValid := by
  refine ⟨fun i s => ?_, fun s t h hs ht => ?_, fun s t h hs ht => ?_⟩
  · obtain ⟨r, -, e⟩ := exec_eq_after i s
    exact ⟨_, e, after32_valid_iff _ _ _, after128_valid_iff _ _ _⟩
  · exact (step_keeps_valid h).resolve_right fun k => by simp [k.1 hs] at ht
  · exact (step_keeps_valid h).resolve_right fun k => by simp [k.2 hs] at ht

/-! ## Single commands -/

/-- Settles O4: the port accepts the record as the command to run. -/
theorem stepRunsTheDecodedInstruction : Obligations.StepRunsTheDecodedInstruction := by
  intro s c rest i hin hdec hw
  have hdrop : s.dropEvent = { s with inbox := rest } := by rw [State.dropEvent, hin]; rfl
  simp [step, accept, acceptCommand, hin, hdec, hdrop, hw]

/-- Settles O14: `Unit32.create` and `Unit128.create` write every field. -/
theorem createStartsTheUnitFromTheSeed : Obligations.CreateStartsTheUnitFromTheSeed :=
  ⟨fun _ _ => rfl, fun _ _ => rfl⟩

theorem restart32_created {u : Unit32} (h : u.valid = true) :
    u.restart = { u with valid := true, phase := .empty, h := u.seed, totalLen := 0, pend := [] } := by
  rw [← h]; rfl

theorem restart128_created {u : Unit128} (h : u.valid = true) :
    u.restart = { u with
      valid := true, phase := .empty, h1 := u.seed, h2 := u.seed, totalLen := 0, pend := [] } := by
  rw [← h]; rfl

/-- Settles O21: a created unit is restarted, not refused. -/
theorem resetRestartsTheUnitFromItsSeed : Obligations.ResetRestartsTheUnitFromItsSeed := by
  refine ⟨fun s h => ?_, fun s h => ?_⟩
  · rw [← restart32_created h]; exact ifCreated32_created _ h
  · rw [← restart128_created h]; exact ifCreated128_created _ h

/-! ## One write -/

/-- R123, R25 item 3: `writeBytes_eq` for `U32`. -/
theorem write32_fold {u : Unit32} (h : u.pend.length < 4) (w : LenWidth) (p : List Byte) :
    (u.write w p).h = (bmix32 u.h (u.pend ++ p)).1 ∧
      (u.write w p).pend = (u.pend ++ p).drop (4 * ((u.pend ++ p).length / 4)) :=
  Prod.ext_iff.1 (writeBytes_eq bmix32_isMixer u.h u.pend p h)

/-- R123, R25 item 3: `writeBytes_eq` for `U128`. -/
theorem write128_fold {u : Unit128} (h : u.pend.length < 16) (w : LenWidth) (p : List Byte) :
    ((u.write w p).h1, (u.write w p).h2) = (bmix128 (u.h1, u.h2) (u.pend ++ p)).1 ∧
      (u.write w p).pend = (u.pend ++ p).drop (16 * ((u.pend ++ p).length / 16)) :=
  Prod.ext_iff.1 (writeBytes_eq bmix128_isMixer (u.h1, u.h2) u.pend p h)

/-- What has no complete block left is shorter than a block. -/
theorem length_drop_complete_lt {bs : Nat} (hbs : 0 < bs) (b : List Byte) :
    (b.drop (bs * (b.length / bs))).length < bs := by
  rw [length_drop_complete]
  exact Nat.mod_lt _ hbs

/-- Settles O17, by `writeBytes_eq`. -/
theorem write32FoldsEveryCompleteBlock : Obligations.Write32FoldsEveryCompleteBlock := by
  rintro s p _ hv hlt rfl
  obtain ⟨hh, hp⟩ := write32_fold hlt s.lenw p
  refine ⟨_, exec_write32_created p hv, hh, hp, ?_, rfl, rfl, rfl⟩
  exact hp ▸ length_drop_complete_lt (by decide) _

/-- Settles O18, by `writeBytes_eq`. -/
theorem write128FoldsEveryCompleteBlock : Obligations.Write128FoldsEveryCompleteBlock := by
  rintro s p _ hv hlt rfl
  obtain ⟨hh, hp⟩ := write128_fold hlt s.lenw p
  refine ⟨_, exec_write128_created p hv, hh, hp, ?_, rfl, rfl, rfl⟩
  exact hp ▸ length_drop_complete_lt (by decide) _

/-! ## The invariant between commands -/

/-- What the invariant says of a unit with blocks of `bs` bytes, in terms of the three fields it speaks of. For 4 it
is `Unit32.Inv` and for 16 `Unit128.Inv`, both by unfolding. -/
def BufferInv (bs : Nat) (w : LenWidth) (valid : Bool) (total : Word64) (pend : List Byte) : Prop :=
  total.toNat < 2 ^ w.bits ∧ pend.length ≤ bs ∧
    (valid = true → pend.length < bs ∧ total.toNat % bs = pend.length)

theorem addLen_lt (w : LenWidth) (a : Word64) (n : Nat) : (addLen w a n).toNat < 2 ^ w.bits := by
  rw [addLen_toNat]
  exact Nat.mod_lt _ (Nat.two_pow_pos _)

theorem sixteen_dvd_lenw (w : LenWidth) : 16 ∣ 2 ^ w.bits := by
  cases w <;> decide

theorem BufferInv.empty {bs : Nat} (hbs : 0 < bs) (w : LenWidth) (valid : Bool) : BufferInv bs w valid 0 [] := by
  exact ⟨Nat.two_pow_pos _, Nat.zero_le _, fun _ => ⟨hbs, Nat.zero_mod _⟩⟩

/-- R25 item 4 after the counter wraps, too: the block size divides `2^LENW`. -/
theorem BufferInv.write {H : Type} {bs : Nat} {bmix : H → List Byte → H × Nat} (m : IsMixer bs bmix)
    {w : LenWidth} (hbs : bs ∣ 2 ^ w.bits) {total : Word64} {pend : List Byte} (i : BufferInv bs w true total pend)
    (valid : Bool) (h : H) (p : List Byte) :
    BufferInv bs w valid (addLen w total p.length) (writeBytes bs bmix h pend p).2 := by
  obtain ⟨-, -, created⟩ := i
  obtain ⟨hlt, htotal⟩ := created rfl
  have hlen : (writeBytes bs bmix h pend p).2.length = (pend.length + p.length) % bs := by
    rw [writeBytes_eq m h pend p hlt, length_drop_complete, List.length_append]
  have hshort : (writeBytes bs bmix h pend p).2.length < bs := hlen ▸ Nat.mod_lt _ (by omega)
  refine ⟨addLen_lt _ _ _, hshort.le, fun _ => ⟨hshort, ?_⟩⟩
  rw [addLen_toNat, Nat.mod_mod_of_dvd _ hbs, hlen, ← htotal, Nat.mod_add_mod]

theorem after32_inv {w : LenWidth} {u : Unit32} (h : u.Inv w) (i : Instr) : (u.after w i).Inv w := by
  have empty (v : Bool) : BufferInv 4 w v 0 [] := .empty (by decide) w v
  cases i with
  | create32 seed => exact empty _
  | write32 p =>
    cases hv : u.valid
    · rwa [after32_of_uncreated hv (by simp [Instr.op])]
    · rw [after32_write32 hv]
      have hb : BufferInv 4 w true u.totalLen u.pend := hv ▸ h
      exact hb.write bmix32_isMixer (Dvd.dvd.trans (by decide) (sixteen_dvd_lenw w)) _ u.h p
  | reset32 =>
    cases hv : u.valid
    · rwa [after32_of_uncreated hv (by decide)]
    · rw [after32_reset32 hv]
      exact empty _
  | _ => exact h

theorem after128_inv {w : LenWidth} {u : Unit128} (h : u.Inv w) (i : Instr) : (u.after w i).Inv w := by
  have empty (v : Bool) : BufferInv 16 w v 0 [] := .empty (by decide) w v
  cases i with
  | create128 seed => exact empty _
  | write128 p =>
    cases hv : u.valid
    · rwa [after128_of_uncreated hv (by simp [Instr.op])]
    · rw [after128_write128 hv]
      have hb : BufferInv 16 w true u.totalLen u.pend := hv ▸ h
      exact hb.write bmix128_isMixer (sixteen_dvd_lenw w) _ (u.h1, u.h2) p
  | reset128 =>
    cases hv : u.valid
    · rwa [after128_of_uncreated hv (by decide)]
    · rw [after128_reset128 hv]
      exact empty _
  | _ => exact h

theorem freeUnit32_inv (w : LenWidth) (n : Nat) : (freeUnit32 w n).Inv w :=
  ⟨addLen_lt _ _ _, List.length_take_le _ _, fun h => nomatch h⟩

theorem freeUnit128_inv (w : LenWidth) (n : Nat) : (freeUnit128 w n).Inv w :=
  ⟨addLen_lt _ _ _, List.length_take_le _ _, fun h => nomatch h⟩

theorem forall_append_response {rs : List Response} (hrs : ∀ r ∈ rs, r.Inv) {r : Response} (hr : r.Inv) :
    ∀ r' ∈ rs ++ [r], r'.Inv := by
  intro r' hr'
  rcases List.mem_append.1 hr' with hold | hnew
  · exact hrs r' hold
  · exact List.mem_singleton.1 hnew ▸ hr

theorem exec_keeps_inv {i : Instr} {s t : State} (h : s.Inv) (e : exec i s = .next t) : t.Inv := by
  obtain ⟨r, hr, e'⟩ := exec_eq_after i s
  cases e'.symm.trans e
  obtain ⟨h32, h128, hrs⟩ := h
  exact ⟨after32_inv h32 i, after128_inv h128 i, forall_append_response hrs hr⟩

/-- Settles O51: the invariant does not speak of the inbox, so an answering step is a command, a refusal or a hardware
reset at a state that meets it, or keeps the state. -/
theorem stepKeepsTheInvariant : Obligations.StepKeepsTheInvariant := by
  intro s t hs h
  obtain ⟨h32, h128, hrs⟩ := hs
  rcases step_cases s with ⟨_, e⟩ | ⟨rest, _, e⟩ | ⟨c, rest, _, ⟨i, _, _, e⟩ | ⟨_, e⟩ | ⟨_, e⟩ | ⟨_, _, _, e⟩⟩
  · cases e.symm.trans h; exact ⟨h32, h128, hrs⟩
  · cases e.symm.trans h; exact ⟨freeUnit32_inv _ _, freeUnit128_inv _ _, hrs⟩
  · exact exec_keeps_inv (s := { s with inbox := rest }) ⟨h32, h128, hrs⟩ (e.symm.trans h)
  · cases e.symm.trans h; exact ⟨h32, h128, forall_append_response hrs fun _ => ⟨rfl, rfl⟩⟩
  · cases e.symm.trans h
  · cases e.symm.trans h

/-- Settles O52: both buffers are empty and both counters 0. -/
theorem resetMeetsTheInvariant : Obligations.ResetMeetsTheInvariant := by
  have key (w : LenWidth) : (State.resetWith w).Inv :=
    ⟨BufferInv.empty (by decide) w false, BufferInv.empty (by decide) w false, fun r hr => nomatch hr⟩
  exact ⟨key _, key⟩

/-! ## The concatenation a unit holds -/

/-- `U32` when it has been created with `seed` and then given the bytes `b` (R25 items 1 to 4). -/
def Unit32.holding (w : LenWidth) (seed : Word32) (phase : Phase) (b : List Byte) : Unit32 :=
  { valid := true
    phase := phase
    seed := seed
    h := (bmix32 seed b).1
    totalLen := lenOperand w b
    pend := b.drop (4 * (b.length / 4)) }

/-- `U128` when it has been created with `seed` and then given the bytes `b` (R25 items 1 to 4). -/
def Unit128.holding (w : LenWidth) (seed : Word64) (phase : Phase) (b : List Byte) : Unit128 :=
  { valid := true
    phase := phase
    seed := seed
    h1 := (bmix128 (seed, seed) b).1.1
    h2 := (bmix128 (seed, seed) b).1.2
    totalLen := lenOperand w b
    pend := b.drop (16 * (b.length / 16)) }

theorem lenOperand_append (w : LenWidth) (b p : List Byte) :
    addLen w (lenOperand w b) p.length = lenOperand w (b ++ p) := by
  have counted (b : List Byte) : lenOperand w b = addLen w 0 b.length := by simp [lenOperand, addLen]
  rw [counted, counted, addLen_addLen, List.length_append]

/-- R25 item 3 is kept by the write algorithm: the complete blocks folded so far and the pending rest stand for all
bytes given so far. -/
theorem writeBytes_holding {H : Type} {bs : Nat} {bmix : H → List Byte → H × Nat} (m : IsMixer bs bmix)
    (hbs : 0 < bs) (h : H) (b p : List Byte) :
    writeBytes bs bmix (bmix h b).1 (b.drop (bs * (b.length / bs))) p =
      ((bmix h (b ++ p)).1, (b ++ p).drop (bs * ((b ++ p).length / bs))) := by
  rw [writeBytes_eq m _ _ _ (length_drop_complete_lt hbs b)]
  have hle : bs * (b.length / bs) ≤ b.length := Nat.mul_div_le _ _
  have hdone : (b.take (bs * (b.length / bs))).length = bs * (b.length / bs) := List.length_take_of_le hle
  have hsplit : b ++ p = b.take (bs * (b.length / bs)) ++ (b.drop (bs * (b.length / bs)) ++ p) := by
    rw [← List.append_assoc, List.take_append_drop]
  refine Prod.ext ?_ ?_
  · rw [hsplit, m.append h _ _ ⟨_, hdone⟩, m.take_complete hbs]
  · conv_rhs => rw [hsplit, List.length_append, hdone, Nat.mul_add_div hbs, Nat.mul_add, ← List.drop_drop,
      List.drop_left' hdone]

theorem write32_holding (w : LenWidth) (seed : Word32) (ph : Phase) (b p : List Byte) :
    (Unit32.holding w seed ph b).write w p = .holding w seed .accumulating (b ++ p) := by
  have hw := writeBytes_holding bmix32_isMixer (by decide) seed b p
  simp only [Unit32.write, Unit32.flagWritten, Unit32.holding, blockSize32, hw, lenOperand_append]

theorem write128_holding (w : LenWidth) (seed : Word64) (ph : Phase) (b p : List Byte) :
    (Unit128.holding w seed ph b).write w p = .holding w seed .accumulating (b ++ p) := by
  have hw := writeBytes_holding bmix128_isMixer (by decide) (seed, seed) b p
  simp only [Unit128.write, Unit128.flagWritten, Unit128.holding, blockSize128, hw, lenOperand_append]

theorem foldl_write32_holding (w : LenWidth) (seed : Word32) (ph : Phase) (b : List Byte) (chunks : List (List Byte)) :
    chunks.foldl (fun u p => u.write w p) (Unit32.holding w seed ph b) =
      .holding w seed (if chunks = [] then ph else .accumulating) (b ++ chunks.flatten) := by
  induction chunks generalizing ph b with
  | nil => simp
  | cons p ps ih => simp [write32_holding, ih]

theorem foldl_write128_holding (w : LenWidth) (seed : Word64) (ph : Phase) (b : List Byte)
    (chunks : List (List Byte)) :
    chunks.foldl (fun u p => u.write w p) (Unit128.holding w seed ph b) =
      .holding w seed (if chunks = [] then ph else .accumulating) (b ++ chunks.flatten) := by
  induction chunks generalizing ph b with
  | nil => simp
  | cons p ps ih => simp [write128_holding, ih]

/-- The response of a `WRITE` that is not refused (R124, R125). -/
def writeAnswer (p : List Byte) : Response := { status := .ok, value := valueOfLen p.length, out := [] }

/-- Any writes on a created `U32`: they go into that unit in order, and each is answered. -/
theorem execAll_write32 {s : State} (h : s.u32.valid = true) (chunks : List (List Byte)) :
    execAll (chunks.map .write32) s = .next { s with
      u32 := chunks.foldl (fun u p => u.write s.lenw p) s.u32
      responses := s.responses ++ chunks.map writeAnswer } := by
  induction chunks generalizing s with
  | nil => simp [execAll]
  | cons p ps ih =>
    rw [List.map_cons, execAll_cons (exec_write32_created p h),
      ih (s := (s.setU32 (s.u32.write s.lenw p)).answer _) h]
    simp [State.setU32, State.answer, State.respond, writeAnswer]

/-- Any writes on a created `U128`. -/
theorem execAll_write128 {s : State} (h : s.u128.valid = true) (chunks : List (List Byte)) :
    execAll (chunks.map .write128) s = .next { s with
      u128 := chunks.foldl (fun u p => u.write s.lenw p) s.u128
      responses := s.responses ++ chunks.map writeAnswer } := by
  induction chunks generalizing s with
  | nil => simp [execAll]
  | cons p ps ih =>
    rw [List.map_cons, execAll_cons (exec_write128_created p h),
      ih (s := (s.setU128 (s.u128.write s.lenw p)).answer _) h]
    simp [State.setU128, State.answer, State.respond, writeAnswer]

theorem create32_eq_holding (w : LenWidth) (seed : Word32) (u : Unit32) :
    u.create seed = .holding w seed .empty [] := by
  simp [Unit32.create, Unit32.flagCreated, Unit32.holding, lenOperand, bmix32]

theorem create128_eq_holding (w : LenWidth) (seed : Word64) (u : Unit128) :
    u.create seed = .holding w seed .empty [] := by
  simp [Unit128.create, Unit128.flagCreated, Unit128.holding, lenOperand, bmix128]

/-- R25: the whole state after `CREATE32` and any writes. -/
theorem execAll_create32_write32 (s : State) (seed : Word32) (chunks : List (List Byte)) :
    execAll (.create32 seed :: chunks.map .write32) s = .next { s with
      u32 := .holding s.lenw seed (if chunks = [] then .empty else .accumulating) chunks.flatten
      responses := s.responses ++ { status := .ok, value := 0, out := [] } :: chunks.map writeAnswer } := by
  have hc : exec (.create32 seed) s = .next ((s.setU32 (s.u32.create seed)).answer 0) := rfl
  rw [execAll_cons hc, execAll_write32 rfl, answer_u32, setU32_u32, answer_lenw, setU32_lenw,
    create32_eq_holding s.lenw, foldl_write32_holding]
  simp [State.setU32, State.answer, State.respond]

/-- R25: the whole state after `CREATE128` and any writes. -/
theorem execAll_create128_write128 (s : State) (seed : Word64) (chunks : List (List Byte)) :
    execAll (.create128 seed :: chunks.map .write128) s = .next { s with
      u128 := .holding s.lenw seed (if chunks = [] then .empty else .accumulating) chunks.flatten
      responses := s.responses ++ { status := .ok, value := 0, out := [] } :: chunks.map writeAnswer } := by
  have hc : exec (.create128 seed) s = .next ((s.setU128 (s.u128.create seed)).answer 0) := rfl
  rw [execAll_cons hc, execAll_write128 rfl, answer_u128, setU128_u128, answer_lenw, setU128_lenw,
    create128_eq_holding s.lenw, foldl_write128_holding]
  simp [State.setU128, State.answer, State.respond]

/-- Settles O37: `Unit32.holding` of the concatenation, by induction over the writes. -/
theorem unit32HoldsTheConcatenation : Obligations.Unit32HoldsTheConcatenation := by
  rintro s seed chunks _ rfl
  refine ⟨_, execAll_create32_write32 s seed chunks, ?_, rfl, rfl, rfl, rfl⟩
  rw [bmix32_isMixer.take_complete (by decide)]
  rfl

/-- Settles O38: `Unit128.holding` of the concatenation, by induction over the writes. -/
theorem unit128HoldsTheConcatenation : Obligations.Unit128HoldsTheConcatenation := by
  rintro s seed chunks _ _ rfl rfl
  refine ⟨_, execAll_create128_write128 s seed chunks, ?_, rfl, rfl, rfl, rfl⟩
  rw [bmix128_isMixer.take_complete (by decide)]
  rfl

end Sys2Proof.Machine
end

section
/-! The family `20_memory.md`: little-endian reads (R43), and the port that takes one event a step, in order (R50, R60,
R189). -/

namespace Sys2Proof.Machine

/-! ## Words of a byte sequence -/

/-- Byte `i` of a word, where the word is wide enough for it, is byte `i` of the sequence it was read from. -/
theorem extractLsb'_ofNat_leValue {n i : Nat} (h : 8 * i + 8 ≤ n) (bs : List Byte) :
    (BitVec.ofNat n (leValue bs)).extractLsb' (8 * i) 8 = bs.getD i 0 := by
  have hn : 2 ^ n = 2 ^ (8 * i) * (256 * 2 ^ (n - (8 * i + 8))) := by
    rw [← Nat.mul_assoc, ← Nat.pow_add (n := 8), ← Nat.pow_add, Nat.add_sub_cancel' h]
  apply BitVec.eq_of_toNat_eq
  rw [BitVec.extractLsb'_toNat, BitVec.toNat_ofNat, Nat.shiftRight_eq_div_pow, hn, Nat.mod_mul_right_div_self,
    Nat.mod_mul_right_mod, leValue_byte]

theorem slice_getD {space : List Byte} {off i n : Nat} {b : Byte} (h : space[off + i]? = some b) (hi : i < n) :
    (slice space off (off + n)).getD i 0 = b := by
  rw [slice_add, List.getD_eq_getElem?_getD, List.getElem?_take_of_lt hi, List.getElem?_drop, h]
  rfl

/-- Settles O35: both words are the little-endian value of a slice. -/
theorem wordsAreReadLittleEndianAtAnyOffset : Obligations.WordsAreReadLittleEndianAtAnyOffset := by
  intro space off i b hb
  refine ⟨fun hi _ => ?_, fun hi _ => ?_⟩
  · rw [memRead32, extractLsb'_ofNat_leValue (by omega), slice_getD hb hi]
  · rw [memRead64, extractLsb'_ofNat_leValue (by omega), slice_getD hb hi]

/-! ## The record of an instruction -/

theorem payloadMatches_encode {i : Instr} (h : i.payload.length < 2 ^ 64) : (encode i).payloadMatches = true :=
  decide_eq_true (Nat.mod_eq_of_lt h).symm

/-- A 32-bit seed survives the 64-bit seed operand (R64). -/
theorem extractLsb'_zeroExtend_word32 (s : Word32) : (s.zeroExtend 64).extractLsb' 0 32 = s :=
  (BitVec.extractLsb'_setWidth_of_le (by decide)).trans BitVec.extractLsb'_eq_self

theorem assemble_encode (i : Instr) : assemble i.op i.variant (encode i) = i := by
  cases i with
  | create32 s => exact congrArg Instr.create32 (extractLsb'_zeroExtend_word32 s)
  | checksum32 s p => exact congrArg (Instr.checksum32 · p) (extractLsb'_zeroExtend_word32 s)
  | _ => rfl

/-- The record of an instruction the port can carry, for either `LENW`, decodes to it. -/
theorem decode_encode {w : LenWidth} {i : Instr} (h : i.wellFormed w = true) : decode (encode i) = .ok i := by
  have hw : 2 ^ w.bits ≤ 2 ^ 64 := by cases w <;> decide
  have hp := payloadMatches_encode (((wellFormed_iff w i).1 h).trans_le hw)
  rw [decode_of_word (decodeWord_encodeWord i.op i.variant), hp, assemble_encode]
  simp

/-! ## Commands and the inbox -/

/-- A command keeps `LENW` and the inbox and adds one response at the end (R60, R189). -/
theorem exec_frame {i : Instr} {s t : State} (h : exec i s = .next t) :
    t.lenw = s.lenw ∧ t.inbox = s.inbox ∧ ∃ r, t.responses = s.responses ++ [r] := by
  obtain ⟨r, -, e⟩ := exec_eq_after i s
  cases e.symm.trans h
  exact ⟨rfl, rfl, r, rfl⟩

theorem ifCreated32_with_inbox {s body t : State} (h : ifCreated32 s body = .next t) (es : List HostEvent) :
    ifCreated32 { s with inbox := es } { body with inbox := es } = .next { t with inbox := es } := by
  rcases ifCreated32_cases s body with ⟨hv, e⟩ | ⟨hv, e⟩
  · cases e.symm.trans h; exact ifCreated32_created _ hv
  · cases e.symm.trans h; exact ifCreated32_refused _ hv

theorem ifCreated128_with_inbox {s body t : State} (h : ifCreated128 s body = .next t) (es : List HostEvent) :
    ifCreated128 { s with inbox := es } { body with inbox := es } = .next { t with inbox := es } := by
  rcases ifCreated128_cases s body with ⟨hv, e⟩ | ⟨hv, e⟩
  · cases e.symm.trans h; exact ifCreated128_created _ hv
  · cases e.symm.trans h; exact ifCreated128_refused _ hv

/-- A command does not look at the inbox: with other pending events it does the same (R50). -/
theorem exec_with_inbox {i : Instr} {s t : State} (h : exec i s = .next t) (es : List HostEvent) :
    exec i { s with inbox := es } = .next { t with inbox := es } := by
  cases i with
  | write32 | reset32 | sum32 | sumBytes32 => exact ifCreated32_with_inbox h es
  | write128 | reset128 | sum128 | sumBytes128 => exact ifCreated128_with_inbox h es
  | _ => cases h; rfl

/-- A step with the record of an instruction at the port executes it at the state without the record. -/
theorem step_encode {i : Instr} {s : State} (h : i.wellFormed s.lenw = true) (es : List HostEvent) :
    step { s with inbox := .command (encode i) :: es } = exec i { s with inbox := es } :=
  stepRunsTheDecodedInstruction _ _ es i rfl (decode_encode h) h

/-- Settles O55, by induction over the instructions: each step executes the first and leaves the records of the rest,
which it does not look at. -/
theorem runOverRecordsExecutesTheCommandsInOrder : Obligations.RunOverRecordsExecutesTheCommandsInOrder := by
  intro is s rest hwf
  induction is generalizing s with
  | nil => rfl
  | cons i is ih =>
    obtain ⟨hi, his⟩ := List.forall_mem_cons.1 hwf
    obtain ⟨t, ht, -⟩ := exec_does i s
    obtain ⟨hlenw, -, -⟩ := exec_frame ht
    have hstep := (step_encode hi (is.map (fun i => .command (encode i)) ++ rest)).trans (exec_with_inbox ht _)
    rw [execAll_cons (exec_with_inbox ht rest), ← ih t (hlenw ▸ his)]
    exact run_next hstep

/-- Settles O54, by what was at the port: nothing, a hardware reset, a record that is executed, or an illegal word. -/
theorem stepTakesOneEventAndAnswersInOrder : Obligations.StepTakesOneEventAndAnswersInOrder := by
  intro s t h
  rcases step_cases s with
    ⟨hin, e⟩ | ⟨rest, hin, e⟩ | ⟨c, rest, hin, ⟨i, _, _, e⟩ | ⟨_, e⟩ | ⟨_, e⟩ | ⟨_, _, _, e⟩⟩
  · cases e.symm.trans h; exact ⟨rfl, .inl ⟨hin, rfl⟩⟩
  · cases e.symm.trans h; exact ⟨rfl, .inr (.inl ⟨rest, hin, rfl, rfl⟩)⟩
  · obtain ⟨hlenw, hinbox, r, hr⟩ := exec_frame (e.symm.trans h)
    exact ⟨hlenw, .inr (.inr ⟨c, rest, r, hin, hinbox, hr⟩)⟩
  · cases e.symm.trans h; exact ⟨rfl, .inr (.inr ⟨c, rest, _, hin, rfl, rfl⟩)⟩
  · cases e.symm.trans h
  · cases e.symm.trans h

end Sys2Proof.Machine
end

section
/-! The family `30_encoding.md`: the decoder and the encoder (R61 to R66), the operands a command reads (R62 to R64),
and the beats of the port (R69). -/

namespace Sys2Proof.Machine

/-! ## Command words -/

/-- R65: the command words are those of an operation and a unit. -/
theorem mem_legalWords_iff {w : Byte} :
    w ∈ [0x10#8, 0x11#8, 0x20#8, 0x21#8, 0x30#8, 0x31#8, 0x40#8, 0x41#8,
      0x50#8, 0x51#8, 0x60#8, 0x61#8, 0x70#8, 0x71#8, 0x80#8, 0x81#8] ↔ ∃ op v, w = encodeWord op v := by
  constructor
  · intro h
    fin_cases h
    exacts [⟨.create, .v32, rfl⟩, ⟨.create, .v128, rfl⟩, ⟨.write, .v32, rfl⟩, ⟨.write, .v128, rfl⟩,
      ⟨.reset, .v32, rfl⟩, ⟨.reset, .v128, rfl⟩, ⟨.sum, .v32, rfl⟩, ⟨.sum, .v128, rfl⟩,
      ⟨.sumBytes, .v32, rfl⟩, ⟨.sumBytes, .v128, rfl⟩, ⟨.blockSize, .v32, rfl⟩, ⟨.blockSize, .v128, rfl⟩,
      ⟨.digestSize, .v32, rfl⟩, ⟨.digestSize, .v128, rfl⟩, ⟨.checksum, .v32, rfl⟩, ⟨.checksum, .v128, rfl⟩]
  · rintro ⟨op, v, rfl⟩
    cases op <;> cases v <;> decide

theorem decodeWord_eq_ok_iff {w : Byte} {op : Op} {v : Variant} :
    decodeWord w = .ok (op, v) ↔ w = encodeWord op v :=
  ⟨eq_encodeWord, fun h => h ▸ decodeWord_encodeWord op v⟩

/-- R63, R64: the words that read `seed[63:0]`. -/
theorem encodeWord_mem_seed128_iff (op : Op) (v : Variant) :
    encodeWord op v ∈ [0x11#8, 0x81#8] ↔ op.format.readsSeed = true ∧ v = .v128 := by
  cases op <;> cases v <;> decide

/-- R63, R64: the words that read `seed[31:0]`. -/
theorem encodeWord_mem_seed32_iff (op : Op) (v : Variant) :
    encodeWord op v ∈ [0x10#8, 0x80#8] ↔ op.format.readsSeed = true ∧ v = .v32 := by
  cases op <;> cases v <;> decide

/-- R63: the words that read `len` and the payload. -/
theorem encodeWord_mem_payload_iff (op : Op) (v : Variant) :
    encodeWord op v ∈ [0x20#8, 0x21#8, 0x50#8, 0x51#8, 0x80#8, 0x81#8] ↔ op.format.readsPayload = true := by
  cases op <;> cases v <;> decide

/-- R65: the words that read a payload are legal. -/
theorem decodeWord_of_mem_payload {w : Byte} (h : w ∈ [0x20#8, 0x21#8, 0x50#8, 0x51#8, 0x80#8, 0x81#8]) :
    ∃ r, decodeWord w = .ok r := by
  fin_cases h <;> exact ⟨_, rfl⟩

/-- Settles O7: by `decodeWord_eq_ok_iff`, and by evaluating the decoder on the 256 words. -/
theorem exactlySixteenWordsAreLegal : Obligations.ExactlySixteenWordsAreLegal := by
  refine ⟨fun w => ?_, by decide +kernel⟩
  simp only [mem_legalWords_iff, Prod.exists, decodeWord_eq_ok_iff]

/-! ## The decoder and the encoder -/

/-- R63 to R66: a record decodes if its word is legal and, where the word reads a payload, the payload has `len`
bytes. -/
theorem decode_eq_ok_iff {c : Command} {i : Instr} :
    decode c = .ok i ↔ ∃ op v, c.cmd = encodeWord op v ∧
      (op.format.readsPayload = true → c.payload.length = c.len.toNat) ∧ assemble op v c = i := by
  rcases hw : decodeWord c.cmd with e | ⟨op, v⟩
  · simp [decode, hw, ← decodeWord_eq_ok_iff]
  · rw [decode_of_word hw]
    cases hr : op.format.readsPayload
    · simp [← decodeWord_eq_ok_iff, hw, hr]
    · by_cases hlen : c.payload.length = c.len.toNat <;>
        simp [← decodeWord_eq_ok_iff, hw, hr, Command.payloadMatches, hlen]

theorem decode_of_cmd {c : Command} (op : Op) (v : Variant) (hw : c.cmd = encodeWord op v)
    (hp : op.format.readsPayload = true → c.payload.length = c.len.toNat) : decode c = .ok (assemble op v c) :=
  decode_eq_ok_iff.2 ⟨op, v, hw, hp, rfl⟩

/-- Settles O9, by `decode_encode`. -/
theorem decodeOfEncodeIsTheInstruction : Obligations.DecodeOfEncodeIsTheInstruction :=
  fun _ => decode_encode

/-- Settles O6: `decode_of_cmd` at each operation and unit. -/
theorem sixteenWordsDecodeWithTheirOperands : Obligations.SixteenWordsDecodeWithTheirOperands := fun _ =>
  ⟨fun h => decode_of_cmd .create .v32 h nofun,
    fun h => decode_of_cmd .create .v128 h nofun,
    fun h hp => decode_of_cmd .write .v32 h fun _ => hp,
    fun h hp => decode_of_cmd .write .v128 h fun _ => hp,
    fun h => decode_of_cmd .reset .v32 h nofun,
    fun h => decode_of_cmd .reset .v128 h nofun,
    fun h => decode_of_cmd .sum .v32 h nofun,
    fun h => decode_of_cmd .sum .v128 h nofun,
    fun h hp => decode_of_cmd .sumBytes .v32 h fun _ => hp,
    fun h hp => decode_of_cmd .sumBytes .v128 h fun _ => hp,
    fun h => decode_of_cmd .blockSize .v32 h nofun,
    fun h => decode_of_cmd .blockSize .v128 h nofun,
    fun h => decode_of_cmd .digestSize .v32 h nofun,
    fun h => decode_of_cmd .digestSize .v128 h nofun,
    fun h hp => decode_of_cmd .checksum .v32 h fun _ => hp,
    fun h hp => decode_of_cmd .checksum .v128 h fun _ => hp⟩

/-- Settles O11: the decoder evaluated on each record. -/
theorem recordsWrittenOutDecode : Obligations.RecordsWrittenOutDecode :=
  ⟨rfl, rfl, rfl, rfl, rfl, rfl, rfl, rfl, rfl, rfl, rfl⟩

/-! What `assemble` puts into an instruction (R64). -/

@[simp] theorem assemble_op (op : Op) (v : Variant) (c : Command) : (assemble op v c).op = op := by
  cases op <;> cases v <;> rfl

@[simp] theorem assemble_variant (op : Op) (v : Variant) (c : Command) : (assemble op v c).variant = v := by
  cases op <;> cases v <;> rfl

theorem assemble_seedPart32 {op : Op} (h : op.format.readsSeed = true) (c : Command) :
    (assemble op .v32 c).seedPart = (c.seed.extractLsb' 0 32).zeroExtend 64 := by
  cases op with
  | create | checksum => rfl
  | _ => cases h

theorem assemble_seedPart128 {op : Op} (h : op.format.readsSeed = true) (c : Command) :
    (assemble op .v128 c).seedPart = c.seed := by
  cases op with
  | create | checksum => rfl
  | _ => cases h

theorem assemble_payload {op : Op} (h : op.format.readsPayload = true) (v : Variant) (c : Command) :
    (assemble op v c).payload = c.payload := by
  cases op with
  | write | sumBytes | checksum => cases v <;> rfl
  | _ => cases h

/-- Settles O10: the word and the parts of the assembled instruction. -/
theorem encodeOfDecodeRestoresWhatWasRead : Obligations.EncodeOfDecodeRestoresWhatWasRead := by
  intro c i h
  obtain ⟨op, v, hw, hlen, rfl⟩ := decode_eq_ok_iff.1 h
  rw [hw, encodeWord_mem_seed128_iff, encodeWord_mem_seed32_iff, encodeWord_mem_payload_iff]
  refine ⟨by simp [encode], ?_, ?_, fun hp => ⟨?_, assemble_payload hp v c⟩⟩
  · rintro ⟨hs, rfl⟩
    exact assemble_seedPart128 hs c
  · rintro ⟨hs, rfl⟩
    exact assemble_seedPart32 hs c
  · calc (encode (assemble op v c)).len
      _ = BitVec.ofNat 64 (assemble op v c).payload.length := rfl
      _ = BitVec.ofNat 64 c.len.toNat := by rw [assemble_payload hp, hlen hp]
      _ = c.len := by simp

/-! ## Operands that are not read -/

/-- R63, R64: records that agree on what the word reads assemble to the same instruction. -/
theorem assemble_congr {op : Op} {v : Variant} {c c' : Command}
    (h128 : op.format.readsSeed = true → v = .v128 → c.seed = c'.seed)
    (h32 : op.format.readsSeed = true → v = .v32 → seedOperand32 c = seedOperand32 c')
    (hp : op.format.readsPayload = true → c.payload = c'.payload) : assemble op v c = assemble op v c' := by
  cases op with
  | create =>
    cases v with
    | v32 => exact congrArg Instr.create32 (h32 rfl rfl)
    | v128 => exact congrArg Instr.create128 (h128 rfl rfl)
  | checksum =>
    cases v with
    | v32 => exact congrArg₂ Instr.checksum32 (h32 rfl rfl) (hp rfl)
    | v128 => exact congrArg₂ Instr.checksum128 (h128 rfl rfl) (hp rfl)
  | write | sumBytes => cases v <;> simp only [assemble, hp rfl]
  | _ => cases v <;> rfl

/-- A step looks at the record at the port through the decoder alone. -/
theorem step_command_congr {c c' : Command} (h : decode c = decode c') (s : State) (rest : List HostEvent) :
    step { s with inbox := .command c :: rest } = step { s with inbox := .command c' :: rest } := by
  rcases hd : decode c' with e | i
  · cases e <;> simp [step, accept, acceptCommand, State.dropEvent, h, hd]
  · cases hw : i.wellFormed s.lenw <;> simp [step, accept, acceptCommand, State.dropEvent, h, hd, hw]

/-- Settles O8: the two records decode alike. -/
theorem unreadOperandsChangeNothing : Obligations.UnreadOperandsChangeNothing := by
  intro s rest c c' hcmd h128 h32 hp
  refine step_command_congr ?_ s rest
  rcases hw : decodeWord c.cmd with e | ⟨op, v⟩
  · simp only [decode, hw, ← hcmd]
  · rw [eq_encodeWord hw, encodeWord_mem_seed128_iff] at h128
    rw [eq_encodeWord hw, encodeWord_mem_seed32_iff] at h32
    rw [eq_encodeWord hw, encodeWord_mem_payload_iff] at hp
    rw [decode_of_word hw, decode_of_word (hcmd ▸ hw), assemble_congr (fun hs hv => h128 ⟨hs, hv⟩)
      (fun hs hv => h32 ⟨hs, hv⟩) (fun hr => (hp hr).2)]
    cases hr : op.format.readsPayload with
    | false => rfl
    | true =>
      obtain ⟨hlen, hpay⟩ := hp hr
      have hm : c.payloadMatches = c'.payloadMatches := by rw [Command.payloadMatches, hlen, hpay]; rfl
      rw [hm]

/-! ## The beats of the port -/

/-- R69, by the command word alone. -/
theorem beatsAfter_eq (hd : Header) : beatsAfter hd =
    if hd.op ∈ [0x20#8, 0x21#8, 0x50#8, 0x51#8, 0x80#8, 0x81#8] then hd.len.toNat else 0 := by
  rcases hw : decodeWord hd.op with e | ⟨op, v⟩
  · have hno : hd.op ∉ [0x20#8, 0x21#8, 0x50#8, 0x51#8, 0x80#8, 0x81#8] := fun hm =>
      let ⟨_, h⟩ := decodeWord_of_mem_payload hm
      nomatch hw.symm.trans h
    rw [if_neg hno]
    simp only [beatsAfter, hw]
  · have hm := encodeWord_mem_payload_iff op v
    rw [← eq_encodeWord hw] at hm
    simp only [beatsAfter, hw, hm]

/-- R69: a header takes its own payload off the front of the stream and leaves the rest to the next headers. -/
theorem receive_cons {hd : Header} {hds : List Header} {p din : List Byte} {cs : List Command} {rest : List Byte}
    (hp : p.length = beatsAfter hd) (h : receive hds din = some (cs, rest)) :
    receive (hd :: hds) (p ++ din) =
      some ({ cmd := hd.op, seed := hd.seed, len := hd.len, payload := p } :: cs, rest) := by
  simp [receive, ← hp, h]

theorem dinOf_eq_payload {c : Command} (h : c.payload.length = beatsAfter (headerOf c)) : dinOf c = c.payload := by
  rw [dinOf, ← h, List.take_length]

/-- Settles O12, by induction over the records. -/
theorem payloadStreamStaysInStep : Obligations.PayloadStreamStaysInStep := by
  refine ⟨beatsAfter_eq, fun cs rest hcs => ?_⟩
  induction cs with
  | nil => rfl
  | cons c cs ih =>
    obtain ⟨hc, hcs⟩ := List.forall_mem_cons.1 hcs
    rw [List.map_cons, List.map_cons, List.flatten_cons, List.append_assoc, dinOf_eq_payload hc]
    exact receive_cons hc (ih hcs)

theorem doutOf_map_byte (b : List Byte) : (doutOf b).map OutBeat.byte = b := by
  induction b using doutOf.induct with
  | case1 | case2 => rfl
  | case3 x y bs ih => rw [doutOf, List.map_cons, ih]

theorem doutOf_last_iff {b : List Byte} {k : Nat} {beat : OutBeat} (h : (doutOf b)[k]? = some beat) :
    beat.last = true ↔ k + 1 = b.length := by
  induction b using doutOf.induct generalizing k with
  | case1 => cases h
  | case2 x =>
    cases k with
    | zero => cases h; simp
    | succ k => cases h
  | case3 x y bs ih =>
    cases k with
    | zero => cases h; simp
    | succ k => rw [ih h, List.length_cons (a := x), Nat.add_right_cancel_iff]

/-- Settles O13, by the recursion of `doutOf`. -/
theorem outputBeatsMarkOnlyTheFinalByte : Obligations.OutputBeatsMarkOnlyTheFinalByte :=
  fun b => ⟨doutOf_map_byte b, fun _ _ => doutOf_last_iff⟩

/-! ## The unit a command depends on -/

/-- R120 step 3: where the body sets `U32` and the response to fixed values, so does the checked command, in every state
with the same `U32`. -/
theorem ifCreated32_uniform (u new : Unit32) (r : Response) : ∃ u' r', ∀ s : State, s.u32 = u →
    ifCreated32 s ((s.setU32 new).respond r) = .next ((s.setU32 u').respond r') := by
  cases hv : u.valid with
  | true => exact ⟨new, r, fun s hs => ifCreated32_created _ (hs ▸ hv)⟩
  | false =>
    refine ⟨u, ⟨.notCreated, 0, []⟩, ?_⟩
    rintro s rfl
    exact ifCreated32_refused _ hv

/-- The same for `U128`. -/
theorem ifCreated128_uniform (u new : Unit128) (r : Response) : ∃ u' r', ∀ s : State, s.u128 = u →
    ifCreated128 s ((s.setU128 new).respond r) = .next ((s.setU128 u').respond r') := by
  cases hv : u.valid with
  | true => exact ⟨new, r, fun s hs => ifCreated128_created _ (hs ▸ hv)⟩
  | false =>
    refine ⟨u, ⟨.notCreated, 0, []⟩, ?_⟩
    rintro s rfl
    exact ifCreated128_refused _ hv

/-- R62, R139: what a command of `U32` leaves in the unit and answers is fixed by `LENW` and the unit, before the rest
of the state is known. -/
theorem exec_uniform32 {i : Instr} (hv : i.variant = .v32) (w : LenWidth) (u : Unit32) :
    ∃ u' r, ∀ s : State, s.lenw = w → s.u32 = u → exec i s = .next ((s.setU32 u').respond r) := by
  cases i with
  | create32 seed => exact ⟨u.create seed, ⟨.ok, 0, []⟩, by rintro s rfl rfl; rfl⟩
  | write32 p =>
    obtain ⟨u', r, h⟩ := ifCreated32_uniform u (u.write w p) ⟨.ok, valueOfLen p.length, []⟩
    exact ⟨u', r, by rintro s rfl rfl; exact h s rfl⟩
  | reset32 =>
    obtain ⟨u', r, h⟩ := ifCreated32_uniform u u.restart ⟨.ok, 0, []⟩
    exact ⟨u', r, by rintro s - rfl; exact h s rfl⟩
  | sum32 =>
    obtain ⟨u', r, h⟩ := ifCreated32_uniform u u ⟨.ok, valueOfWord u.digest, []⟩
    exact ⟨u', r, by rintro s - rfl; exact h s rfl⟩
  | sumBytes32 p =>
    obtain ⟨u', r, h⟩ := ifCreated32_uniform u u ⟨.ok, 0, p ++ be32 u.digest⟩
    exact ⟨u', r, by rintro s - rfl; exact h s rfl⟩
  | blockSize32 => exact ⟨u, ⟨.ok, valueOfLen blockSize32, []⟩, by rintro s - rfl; rfl⟩
  | digestSize32 => exact ⟨u, ⟨.ok, valueOfLen digestSize32, []⟩, by rintro s - rfl; rfl⟩
  | checksum32 seed p => exact ⟨u, ⟨.ok, valueOfWord (digest32 w seed p), []⟩, by rintro s rfl rfl; rfl⟩
  | _ => cases hv

/-- The same for `U128`. -/
theorem exec_uniform128 {i : Instr} (hv : i.variant = .v128) (w : LenWidth) (u : Unit128) :
    ∃ u' r, ∀ s : State, s.lenw = w → s.u128 = u → exec i s = .next ((s.setU128 u').respond r) := by
  cases i with
  | create128 seed => exact ⟨u.create seed, ⟨.ok, 0, []⟩, by rintro s rfl rfl; rfl⟩
  | write128 p =>
    obtain ⟨u', r, h⟩ := ifCreated128_uniform u (u.write w p) ⟨.ok, valueOfLen p.length, []⟩
    exact ⟨u', r, by rintro s rfl rfl; exact h s rfl⟩
  | reset128 =>
    obtain ⟨u', r, h⟩ := ifCreated128_uniform u u.restart ⟨.ok, 0, []⟩
    exact ⟨u', r, by rintro s - rfl; exact h s rfl⟩
  | sum128 =>
    obtain ⟨u', r, h⟩ := ifCreated128_uniform u u ⟨.ok, valueOfPair u.digest, []⟩
    exact ⟨u', r, by rintro s - rfl; exact h s rfl⟩
  | sumBytes128 p =>
    obtain ⟨u', r, h⟩ := ifCreated128_uniform u u ⟨.ok, 0, p ++ be64 u.digest.1 ++ be64 u.digest.2⟩
    exact ⟨u', r, by rintro s - rfl; exact h s rfl⟩
  | blockSize128 => exact ⟨u, ⟨.ok, valueOfLen blockSize128, []⟩, by rintro s - rfl; rfl⟩
  | digestSize128 => exact ⟨u, ⟨.ok, valueOfLen digestSize128, []⟩, by rintro s - rfl; rfl⟩
  | checksum128 seed p => exact ⟨u, ⟨.ok, valueOfPair (digest128 w seed p), []⟩, by rintro s rfl rfl; rfl⟩
  | _ => cases hv

/-- Settles O43: the unit's new value and the response of `exec_uniform32` or `exec_uniform128` serve both states. -/
theorem responsesDependOnTheirOwnUnitOnly : Obligations.ResponsesDependOnTheirOwnUnitOnly := by
  intro i s s' hw h32 h128
  cases hv : i.variant with
  | v32 =>
    obtain ⟨u, r, h⟩ := exec_uniform32 hv s.lenw s.u32
    exact ⟨_, _, r, h s rfl rfl, h s' hw.symm (h32 hv).symm, rfl, rfl, fun _ => rfl, nofun⟩
  | v128 =>
    obtain ⟨u, r, h⟩ := exec_uniform128 hv s.lenw s.u128
    exact ⟨_, _, r, h s rfl rfl, h s' hw.symm (h128 hv).symm, rfl, rfl, nofun, fun _ => rfl⟩

end Sys2Proof.Machine
end

section
/-! The family `40_datapath32.md`: the 32-bit data path (R81 to R85), and the digests under both values of `LENW`. -/

namespace Sys2Proof.Machine

/-! ## Words and their bytes -/

/-- A word of whole bytes is known from them. -/
theorem eq_of_bytes_eq {n m : Nat} (hn : n = 8 * m) {x y : BitVec n}
    (h : ∀ j < m, x.extractLsb' (8 * j) 8 = y.extractLsb' (8 * j) 8) : x = y := by
  apply BitVec.eq_of_getLsbD_eq
  intro i hi
  have hbit := congrArg (BitVec.getLsbD · (i % 8)) (h (i / 8) (by omega))
  have hlt : i % 8 < 8 := Nat.mod_lt i (by decide)
  simpa only [BitVec.getLsbD_extractLsb', hlt, Nat.div_add_mod, decide_true, Bool.true_and] using hbit

/-- R45: the word whose byte `j` is byte `j` of the sequence, or zero where there is none, is its little-endian
value. -/
theorem eq_ofNat_leValue {n m : Nat} (hn : n = 8 * m) {k : BitVec n} {bs : List Byte}
    (h : ∀ j < m, k.extractLsb' (8 * j) 8 = bs.getD j 0) : k = BitVec.ofNat n (leValue bs) := by
  apply eq_of_bytes_eq hn
  intro j hj
  rw [h j hj, extractLsb'_ofNat_leValue (by omega)]

/-- R9: the first byte of a sequence is the low byte of its value. -/
theorem ofNat_leValue_cons (n : Nat) (b : Byte) (bs : List Byte) :
    BitVec.ofNat (n + 8) (leValue (b :: bs)) = BitVec.ofNat n (leValue bs) ++ b := by
  apply BitVec.eq_of_toNat_eq
  have hb : b.toNat < 2 ^ 8 := b.isLt
  have hrest : (b.toNat + 256 * leValue bs) / 2 ^ 8 = leValue bs := by omega
  rw [BitVec.toNat_append, ← Nat.shiftLeft_add_eq_or_of_lt hb, Nat.shiftLeft_eq, BitVec.toNat_ofNat,
    BitVec.toNat_ofNat, leValue, Nat.add_comm n 8, Nat.pow_add, Nat.mod_mul, hrest]
  omega

/-- R43: four bytes read little-endian. -/
theorem memRead32_block (b0 b1 b2 b3 : Byte) : memRead32 [b0, b1, b2, b3] 0 = b3 ++ b2 ++ b1 ++ b0 := by
  have hlast : BitVec.ofNat 8 (leValue [b3]) = b3 := by simp [leValue]
  calc memRead32 [b0, b1, b2, b3] 0
      = BitVec.ofNat 8 (leValue [b3]) ++ b2 ++ b1 ++ b0 := by
        rw [← ofNat_leValue_cons, ← ofNat_leValue_cons, ← ofNat_leValue_cons]; rfl
    _ = b3 ++ b2 ++ b1 ++ b0 := by rw [hlast]

/-- R8: the low bits of a word are its truncation. -/
theorem extractLsb'_zero_toNat {n : Nat} (v : BitVec n) (m : Nat) : (v.extractLsb' 0 m).toNat = truncN m v.toNat := by
  rw [BitVec.extractLsb'_toNat, Nat.shiftRight_zero, truncN]

/-! ## Blocks, tail and finalisation -/

/-- R82: the loop body runs once on one block. -/
theorem bmix32_block (h : Word32) (b0 b1 b2 b3 : Byte) :
    (bmix32 h [b0, b1, b2, b3]).1 = foldWord32 h (b3 ++ b2 ++ b1 ++ b0) := by
  have hone : [b0, b1, b2, b3].length / 4 = 1 := Nat.div_self (by decide : 0 < 4)
  rw [bmix32, hone, List.range_one, List.foldl_cons, List.foldl_nil, Nat.mul_zero, memRead32_block]

/-- Settles O27: `BMIX32` is a block mixer, and its first block is one run of the loop body. -/
theorem bmix32FoldsBlocksInOrder : Obligations.Bmix32FoldsBlocksInOrder := by
  refine ⟨bmix32_isMixer.consumed, fun h b hb => ?_, fun h k b0 b1 b2 b3 rest hk => ?_⟩
  · have hcount : (bmix32 h b).2 = 0 := by rw [bmix32_isMixer.consumed, Nat.div_eq_of_lt hb]
    exact Prod.ext (bmix32_isMixer.short h b hb) hcount
  · have hfirst := bmix32_isMixer.append h [b0, b1, b2, b3] rest (Nat.dvd_refl 4)
    rw [bmix32_block, ← hk] at hfirst
    exact hfirst

/-- Settles O28: the word of the statement is the one `TAIL32` reads. -/
theorem tail32FoldsTheBytesPresent : Obligations.Tail32FoldsTheBytesPresent := by
  intro h k t _ hk
  rw [eq_ofNat_leValue (m := 4) rfl hk, tail32]
  simp only [List.length_eq_zero_iff]

/-- Settles O26: each operation of `KMIX32` is the primitive of R8. -/
theorem kmix32MultipliesRotatesMultiplies : Obligations.Kmix32MultipliesRotatesMultiplies := by
  rintro k _ _ rfl rfl
  have hr : 15 < 32 := by decide
  rw [← c1of32_toNat, ← c2of32_toNat, ← mul_toNat, ← rotl_toNat _ _ hr, ← mul_toNat, kmix32]

/-- Settles O29: each operation of `FIN32` is the primitive of R8. -/
theorem fin32MixesTheLengthAndAvalanches : Obligations.Fin32MixesTheLengthAndAvalanches := by
  rintro h l _ _ _ _ _ rfl rfl rfl rfl rfl
  simp only [fin32, BitVec.toNat_xor, shr_toNat, mul_toNat, extractLsb'_zero_toNat, f1of32_toNat, f2of32_toNat]

/-! ## The two values of `LENW` -/

/-- R84: `FIN32` reads only the low 32 bits of the length. -/
theorem fin32_congr {l l' : Word64} (hl : l.extractLsb' 0 32 = l'.extractLsb' 0 32) (h : Word32) :
    fin32 h l = fin32 h l' := by
  simp only [fin32, hl]

/-- R5: the low 32 bits of the length operand are the same for both values of `LENW`. -/
theorem lenOperand_low (w : LenWidth) (b : List Byte) :
    (lenOperand w b).extractLsb' 0 32 = BitVec.ofNat 32 b.length := by
  have hdvd : 2 ^ 32 ∣ 2 ^ w.bits := by cases w <;> decide
  apply BitVec.eq_of_toNat_eq
  rw [extractLsb'_zero_toNat, truncN, lenOperand, BitVec.toNat_ofNat, BitVec.toNat_ofNat,
    Nat.mod_mod_of_dvd _ (by decide), Nat.mod_mod_of_dvd _ hdvd]

/-- Settles O36: `LENW` enters a digest only through the length operand. -/
theorem digestsAgreeForBothLengthWidths : Obligations.DigestsAgreeForBothLengthWidths := by
  refine ⟨fun s b => ?_, fun s b hb => ?_⟩
  · exact fin32_congr ((lenOperand_low .w32 b).trans (lenOperand_low .w64 b).symm) _
  · have hb64 : b.length < 2 ^ 64 := Nat.lt_trans hb (by decide)
    rw [digest128, digest128, lenOperand_eq .w32 b hb, lenOperand_eq .w64 b hb64]

end Sys2Proof.Machine
end

section
/-! The family `41_datapath128.md`: the 128-bit data path (R101 to R106). -/

namespace Sys2Proof.Machine

/-! ## Words and halves of words -/

/-- R9: a byte of a slice is the byte of the sequence at its place, or zero past the end of both. -/
theorem slice_add_getD (b : List Byte) (off : Nat) {n j : Nat} (hj : j < n) :
    (slice b off (off + n)).getD j 0 = b.getD (off + j) 0 := by
  rw [slice_add, List.getD_eq_getElem?_getD, List.getElem?_take_of_lt hj, List.getElem?_drop,
    List.getD_eq_getElem?_getD]

/-- R43, R45: the word whose byte `j` is byte `off + j` of the space, or zero past the end, is what is read at `off`. -/
theorem eq_memRead64 {k : Word64} {b : List Byte} {off : Nat}
    (h : ∀ j < 8, k.extractLsb' (8 * j) 8 = b.getD (off + j) 0) : k = memRead64 b off := by
  apply eq_ofNat_leValue (m := 8) rfl
  intro j hj
  rw [h j hj, slice_add_getD b off hj]

/-- R8: rotating a word by half its width exchanges its halves. -/
theorem rotl_half (v : Word64) : rotl v 32 = v.extractLsb' 0 32 ++ v.extractLsb' 32 32 := by
  apply BitVec.eq_of_getLsbD_eq
  intro i hi
  rw [rotl, BitVec.getLsbD_rotateLeft, BitVec.getLsbD_append, BitVec.getLsbD_extractLsb', BitVec.getLsbD_extractLsb']
  by_cases hlow : i < 32
  · simp [hlow]
  · have hhigh : i - 32 < 32 := by omega
    simp [hlow, hi, hhigh]

/-! ## Blocks -/

/-- R103: the loop body runs once on one block. -/
theorem bmix128_block (h : Pair64) {blk : List Byte} (hblk : blk.length = 16) :
    (bmix128 h blk).1 = foldWords128 h (memRead64 blk 0) (memRead64 blk 8) := by
  rw [bmix128, hblk]
  rfl

/-- Settles O31: `BMIX128` is a block mixer, and its first block is one run of the loop body. -/
theorem bmix128FoldsBlocksInOrder : Obligations.Bmix128FoldsBlocksInOrder := by
  refine ⟨bmix128_isMixer.consumed, fun h b hb => ?_, ?_⟩
  · have hcount : (bmix128 h b).2 = 0 := by rw [bmix128_isMixer.consumed, Nat.div_eq_of_lt hb]
    exact Prod.ext (bmix128_isMixer.short h b hb) hcount
  · rintro h1 h2 k1 k2 _ _ blk rest hblk hk1 hk2 rfl rfl
    have hw1 : k1 = memRead64 blk 0 := eq_memRead64 (by simpa only [Nat.zero_add] using hk1)
    have hw2 : k2 = memRead64 blk 8 := eq_memRead64 hk2
    have hdvd : 16 ∣ blk.length := Dvd.intro_left 1 hblk.symm
    rw [bmix128_isMixer.append _ blk rest hdvd, bmix128_block _ hblk, ← hw1, ← hw2]
    rfl

/-! ## Tail -/

/-- R104, R45: the words of the tail are its first two words, read with zeros past its end. -/
theorem tail128_eq (h : Pair64) {t : List Byte} (ht : t.length ≤ 15) :
    tail128 h t = (if t.length > 0 then h.1 ^^^ k1mix (memRead64 t 0) else h.1,
      if t.length > 8 then h.2 ^^^ k2mix (memRead64 t 8) else h.2) := by
  have hfirst : slice t 0 (min t.length 8) = slice t 0 8 := by
    rw [slice_zero, slice_zero, List.take_eq_take_iff]
    omega
  have hsecond : slice t 8 t.length = slice t 8 16 := by
    rw [slice, slice, List.take_length, List.take_of_length_le (Nat.le_succ_of_le ht)]
  rw [tail128, hfirst, hsecond]
  rfl

/-- Settles O32: the words of the statement are those that `TAIL128` reads. -/
theorem tail128FoldsTheBytesPresent : Obligations.Tail128FoldsTheBytesPresent := by
  intro h1 h2 k1 k2 t ht hk1 hk2
  have hw1 : k1 = memRead64 t 0 := eq_memRead64 (by simpa only [Nat.zero_add] using hk1)
  have hw2 : k2 = memRead64 t 8 := eq_memRead64 hk2
  rw [tail128_eq _ ht, ← hw1, ← hw2]
  refine Prod.ext ?_ ?_
  · simp only [gt_iff_lt, List.length_pos_iff, ite_not]
  · simp only [gt_iff_lt, ← Nat.not_le, ite_not]

/-! ## Mixing and finalisation -/

/-- Settles O34: the last step of `FIN128` is the exchange of halves. -/
theorem fin128CrossAddsAvalanchesAndSwapsHalves : Obligations.Fin128CrossAddsAvalanchesAndSwapsHalves := by
  rintro h1 h2 l _ _ _ _ rfl rfl rfl rfl
  rw [← rotl_half, ← rotl_half, fin128]

/-- The shape of `K1MIX` and of `K2MIX` in the primitives of R8. -/
theorem mul_rotl_mul_toNat {n : Nat} (k c d : BitVec n) {r : Nat} (hr : r < n) :
    (rotl (k * c) r * d).toNat = mulN n (rotlN n (mulN n k.toNat c.toNat) r) d.toNat := by
  rw [mul_toNat, rotl_toNat _ _ hr, mul_toNat]

/-- Settles O30: the two functions exchange the multipliers `C1_64` and `C2_64`. -/
theorem k1mixAndK2mixMultiplyRotateMultiply : Obligations.K1mixAndK2mixMultiplyRotateMultiply := by
  constructor
  · rintro k _ _ rfl rfl
    exact mul_rotl_mul_toNat k c1of64 c2of64 (by decide : 31 < 64)
  · rintro k _ _ rfl rfl
    exact mul_rotl_mul_toNat k c2of64 c1of64 (by decide : 33 < 64)

/-- Settles O33: each operation of `FMIX64` is the primitive of R8. -/
theorem fmix64Avalanches : Obligations.Fmix64Avalanches := by
  rintro k _ _ _ _ rfl rfl rfl rfl
  simp only [fmix64, BitVec.toNat_xor, shr_toNat, mul_toNat, f1of64_toNat, f2of64_toNat]

end Sys2Proof.Machine
end

section
/-! The family `42_streaming.md`: one write (R123 to R125), the digest queries (R128 to R131), the sizes (R132 to R135)
and sequences of writes and queries (R136 to R138). -/

namespace Sys2Proof.Machine

/-! ## One write -/

/-- R123 step 2: a payload that does not complete a block is appended. -/
theorem writeBytes_short {H : Type} {bs : Nat} {pend p : List Byte} (hlt : pend.length + p.length < bs)
    (bmix : H → List Byte → H × Nat) (h : H) : writeBytes bs bmix h pend p = (h, pend ++ p) :=
  if_pos hlt

/-- R123 steps 3 to 5: a payload that completes a block is cut after the bytes that fill it. -/
theorem writeBytes_fill {H : Type} {bs : Nat} {bmix : H → List Byte → H × Nat} {h : H} {pend p : List Byte}
    (hle : bs ≤ pend.length + p.length) {t : Nat} {a b : H × Nat} (ht : t = bs - pend.length)
    (ha : a = bmix h (pend ++ p.take t)) (hb : b = bmix a.1 (p.drop t)) :
    writeBytes bs bmix h pend p = (b.1, p.drop (t + b.2)) := by
  subst ht ha hb
  simp only [writeBytes, if_neg (Nat.not_lt.2 hle), slice_zero, slice_to_length]

/-- What `WRITE32` leaves in the unit, from the outcome of the write algorithm. -/
theorem write32_of_writeBytes {u : Unit32} {p : List Byte} {r : Word32 × List Byte}
    (hr : writeBytes 4 bmix32 u.h u.pend p = r) (w : LenWidth) :
    u.write w p = { u with
      phase := .accumulating, h := r.1, totalLen := addLen w u.totalLen p.length, pend := r.2 } := by
  subst hr; rfl

/-- What `WRITE128` leaves in the unit, from the outcome of the write algorithm. -/
theorem write128_of_writeBytes {u : Unit128} {p : List Byte} {r : Pair64 × List Byte}
    (hr : writeBytes 16 bmix128 (u.h1, u.h2) u.pend p = r) (w : LenWidth) :
    u.write w p = { u with
      phase := .accumulating, h1 := r.1.1, h2 := r.1.2, totalLen := addLen w u.totalLen p.length, pend := r.2 } := by
  subst hr; rfl

/-- Settles O15: the write algorithm on a payload that completes no block and on one that does. -/
theorem write32TakesTheFiveSteps : Obligations.Write32TakesTheFiveSteps := by
  intro s p hv
  refine ⟨fun hlt => ?_, fun hle t a b ht ha hb => ?_⟩
  · rw [exec_write32_created p hv, write32_of_writeBytes (writeBytes_short hlt bmix32 s.u32.h)]
    rfl
  · rw [exec_write32_created p hv, write32_of_writeBytes (writeBytes_fill hle ht ha hb)]
    rfl

/-- Settles O16: the write algorithm on a payload that completes no block and on one that does. -/
theorem write128TakesTheFiveSteps : Obligations.Write128TakesTheFiveSteps := by
  intro s p hv
  refine ⟨fun hlt => ?_, fun hle t a b ht ha hb => ?_⟩
  · rw [exec_write128_created p hv, write128_of_writeBytes (writeBytes_short hlt bmix128 (s.u128.h1, s.u128.h2))]
    rfl
  · rw [exec_write128_created p hv, write128_of_writeBytes (writeBytes_fill hle ht ha hb)]
    rfl

/-! ## Digest queries and sizes -/

theorem exec_sum32_created {s : State} (h : s.u32.valid = true) :
    exec .sum32 s = .next (s.answer (valueOfWord s.u32.digest)) :=
  ifCreated32_created _ h

theorem exec_sum128_created {s : State} (h : s.u128.valid = true) :
    exec .sum128 s = .next (s.answer (valueOfPair s.u128.digest)) :=
  ifCreated128_created _ h

theorem exec_sumBytes32_created {s : State} (p : List Byte) (h : s.u32.valid = true) :
    exec (.sumBytes32 p) s = .next (s.answerBytes (p ++ be32 s.u32.digest)) :=
  ifCreated32_created _ h

theorem exec_sumBytes128_created {s : State} (p : List Byte) (h : s.u128.valid = true) :
    exec (.sumBytes128 p) s = .next (s.answerBytes (p ++ (be64 s.u128.digest.1 ++ be64 s.u128.digest.2))) := by
  rw [← List.append_assoc]
  exact ifCreated128_created _ h

/-- Settles O22: `SUM` on a created unit answers the digest of the unit. -/
theorem sumReturnsTheDigestOfACopy : Obligations.SumReturnsTheDigestOfACopy := by
  refine ⟨fun s h => exec_sum32_created h, ?_⟩
  rintro s _ h rfl
  exact exec_sum128_created h

/-- A part of a word and the byte below it are adjacent. -/
theorem extractLsb'_append_byte {n : Nat} (v : BitVec n) (i k : Nat) :
    v.extractLsb' (i + 8) k ++ v.extractLsb' i 8 = v.extractLsb' i (k + 8) :=
  BitVec.extractLsb'_append_extractLsb'_eq_extractLsb' rfl

/-- R9, R46: `BE_32` lists the bytes of the word, most significant first. -/
theorem be32_bytes (v : Word32) : ∃ b3 b2 b1 b0 : Byte, v = b3 ++ b2 ++ b1 ++ b0 ∧ be32 v = [b3, b2, b1, b0] := by
  refine ⟨_, _, _, _, ?_, rfl⟩
  rw [extractLsb'_append_byte v 16, extractLsb'_append_byte v 8, extractLsb'_append_byte v 0]
  exact BitVec.extractLsb'_eq_self.symm

/-- R9, R46: `BE_64` lists the bytes of the word, most significant first. -/
theorem be64_bytes (v : Word64) : ∃ b7 b6 b5 b4 b3 b2 b1 b0 : Byte,
    v = b7 ++ b6 ++ b5 ++ b4 ++ b3 ++ b2 ++ b1 ++ b0 ∧ be64 v = [b7, b6, b5, b4, b3, b2, b1, b0] := by
  refine ⟨_, _, _, _, _, _, _, _, ?_, rfl⟩
  rw [extractLsb'_append_byte v 48, extractLsb'_append_byte v 40, extractLsb'_append_byte v 32,
    extractLsb'_append_byte v 24, extractLsb'_append_byte v 16, extractLsb'_append_byte v 8,
    extractLsb'_append_byte v 0]
  exact BitVec.extractLsb'_eq_self.symm

/-- Settles O23: the bytes of the digest are those that `be32` and `be64` list. -/
theorem sumBytesAppendsTheDigestBigEndian : Obligations.SumBytesAppendsTheDigestBigEndian := by
  constructor
  · rintro s p _ h rfl
    obtain ⟨b3, b2, b1, b0, hd, hbytes⟩ := be32_bytes s.u32.digest
    refine ⟨b3, b2, b1, b0, hd, ?_⟩
    rw [← hbytes]
    exact exec_sumBytes32_created p h
  · rintro s p _ h rfl
    obtain ⟨b7, b6, b5, b4, b3, b2, b1, b0, hd1, hbytes1⟩ := be64_bytes s.u128.digest.1
    obtain ⟨c7, c6, c5, c4, c3, c2, c1, c0, hd2, hbytes2⟩ := be64_bytes s.u128.digest.2
    refine ⟨b7, b6, b5, b4, b3, b2, b1, b0, c7, c6, c5, c4, c3, c2, c1, c0, hd1, hd2, ?_⟩
    rw [exec_sumBytes128_created p h, hbytes1, hbytes2]
    rfl

/-- Settles O24: the four commands answer their constants without looking at the state. -/
theorem sizesAreAnsweredInEveryState : Obligations.SizesAreAnsweredInEveryState :=
  fun _ => ⟨List.forall_mem_cons.2 ⟨rfl, List.forall_mem_singleton.2 rfl⟩,
    List.forall_mem_cons.2 ⟨rfl, List.forall_mem_singleton.2 rfl⟩⟩

/-! ## Sequences of commands -/

theorem answer_getLast? (v : BitVec 128) (s : State) :
    (s.answer v).responses.getLast? = some { status := .ok, value := v, out := [] } :=
  List.getLast?_concat

/-- R25, R85: the digest of a unit is the digest of the bytes it has been given, under its seed. -/
theorem holding32_digest (w : LenWidth) (seed : Word32) (ph : Phase) (b : List Byte) :
    (Unit32.holding w seed ph b).digest = digest32 w seed b := by
  rw [digest32, slice_to_length]
  rfl

/-- R25, R107: the digest of a unit is the digest of the bytes it has been given, under its seed. -/
theorem holding128_digest (w : LenWidth) (seed : Word64) (ph : Phase) (b : List Byte) :
    (Unit128.holding w seed ph b).digest = digest128 w seed b := by
  rw [digest128, slice_to_length]
  rfl

/-- Settles O39: the writes leave a unit that holds the concatenation, whose digest `SUM` answers. -/
theorem chunkingDoesNotChangeTheDigest : Obligations.ChunkingDoesNotChangeTheDigest := by
  constructor
  · intro s seed chunks _
    refine ⟨_, (execAll_append (execAll_create32_write32 s seed chunks)).trans
      (execAll_cons (exec_sum32_created rfl)), ?_⟩
    rw [answer_getLast?, holding32_digest]
    rfl
  · rintro s seed chunks _ - rfl
    refine ⟨_, (execAll_append (execAll_create128_write128 s seed chunks)).trans
      (execAll_cons (exec_sum128_created rfl)), ?_⟩
    rw [answer_getLast?, holding128_digest]
    rfl

/-- R137: on a created unit, `RESET32` is `CREATE32` with the unit's seed. -/
theorem exec_reset32_eq_create32 {s : State} (h : s.u32.valid = true) :
    exec .reset32 s = exec (.create32 s.u32.seed) s := by
  have hunit : s.u32.restart = s.u32.create s.u32.seed := restart32_created h
  calc exec .reset32 s
      = .next ((s.setU32 s.u32.restart).answer 0) := ifCreated32_created _ h
    _ = exec (.create32 s.u32.seed) s := by rw [hunit]; rfl

/-- R137: on a created unit, `RESET128` is `CREATE128` with the unit's seed. -/
theorem exec_reset128_eq_create128 {s : State} (h : s.u128.valid = true) :
    exec .reset128 s = exec (.create128 s.u128.seed) s := by
  have hunit : s.u128.restart = s.u128.create s.u128.seed := restart128_created h
  calc exec .reset128 s
      = .next ((s.setU128 s.u128.restart).answer 0) := ifCreated128_created _ h
    _ = exec (.create128 s.u128.seed) s := by rw [hunit]; rfl

/-- Lists of commands that differ only in the first, which does the same, do the same. -/
theorem execAll_cons_congr {i j : Instr} {s : State} (h : exec i s = exec j s) (is : List Instr) :
    execAll (i :: is) s = execAll (j :: is) s := by
  simp only [execAll, h]

/-- Settles O41: the first commands do the same, and the rest are the same. -/
theorem resetThenWritesIsFreshThenWrites : Obligations.ResetThenWritesIsFreshThenWrites := by
  refine ⟨fun s chunks h => ?_, fun s chunks h => ?_⟩
  · obtain ⟨t, ht⟩ := execAll_next (.reset32 :: chunks.map .write32 ++ [.sum32]) s
    exact ⟨t, ht, (execAll_cons_congr (exec_reset32_eq_create32 h) _).symm.trans ht⟩
  · obtain ⟨t, ht⟩ := execAll_next (.reset128 :: chunks.map .write128 ++ [.sum128]) s
    exact ⟨t, ht, (execAll_cons_congr (exec_reset128_eq_create128 h) _).symm.trans ht⟩

/-- `WRITE32` and then `SUM32` answer the digest of the unit with the payload written. -/
theorem execAll_write32_sum32 {s : State} (h : s.u32.valid = true) (p : List Byte) :
    execAll [.write32 p, .sum32] s = .next
      (((s.setU32 (s.u32.write s.lenw p)).answer (valueOfLen p.length)).answer
        (valueOfWord (s.u32.write s.lenw p).digest)) := by
  rw [execAll_cons (exec_write32_created p h)]
  exact execAll_cons (exec_sum32_created h)

/-- `WRITE128` and then `SUM128` answer the digest of the unit with the payload written. -/
theorem execAll_write128_sum128 {s : State} (h : s.u128.valid = true) (p : List Byte) :
    execAll [.write128 p, .sum128] s = .next
      (((s.setU128 (s.u128.write s.lenw p)).answer (valueOfLen p.length)).answer
        (valueOfPair (s.u128.write s.lenw p).digest)) := by
  rw [execAll_cons (exec_write128_created p h)]
  exact execAll_cons (exec_sum128_created h)

theorem answer_answer (v : BitVec 128) (s : State) : (s.answer v).answer v = { s with
    responses := s.responses ++ [⟨.ok, v, []⟩, ⟨.ok, v, []⟩] } := by
  simp [State.answer, State.respond]

theorem execAll_sum32_sum32 {s : State} (h : s.u32.valid = true) : execAll [.sum32, .sum32] s = .next { s with
    responses := s.responses ++ [⟨.ok, valueOfWord s.u32.digest, []⟩, ⟨.ok, valueOfWord s.u32.digest, []⟩] } := by
  rw [execAll_cons (exec_sum32_created h), ← answer_answer]
  exact execAll_cons (exec_sum32_created h)

theorem execAll_sum128_sum128 {s : State} (h : s.u128.valid = true) : execAll [.sum128, .sum128] s = .next { s with
    responses := s.responses ++ [⟨.ok, valueOfPair s.u128.digest, []⟩, ⟨.ok, valueOfPair s.u128.digest, []⟩] } := by
  rw [execAll_cons (exec_sum128_created h), ← answer_answer]
  exact execAll_cons (exec_sum128_created h)

/-- Settles O42: `SUM` only answers, so a second `SUM`, or a `WRITE` after it, finds the same unit. -/
theorem digestQueriesAreStable : Obligations.DigestQueriesAreStable := by
  refine ⟨fun s p h => ?_, fun s p h => ?_⟩
  · have queried := execAll_write32_sum32 (s := s.answer (valueOfWord s.u32.digest)) h p
    exact ⟨_, _, _, _, execAll_sum32_sum32 h, (execAll_cons (exec_sum32_created h)).trans queried,
      execAll_write32_sum32 h p, rfl, answer_getLast? _ _, answer_getLast? _ _⟩
  · have queried := execAll_write128_sum128 (s := s.answer (valueOfPair s.u128.digest)) h p
    exact ⟨_, _, _, _, execAll_sum128_sum128 h, (execAll_cons (exec_sum128_created h)).trans queried,
      execAll_write128_sum128 h p, rfl, answer_getLast? _ _, answer_getLast? _ _⟩

end Sys2Proof.Machine
end

section
/-! The family `43_checksum.md`: the one-shot digest (R150, R151), that it is the digest of a streamed payload (R152),
and that it does not depend on when it is asked for (R153). -/

namespace Sys2Proof.Machine

/-! ## The one-shot digest -/

/-- R150: `CHECKSUM32` answers the digest of its payload. -/
theorem exec_checksum32 (seed : Word32) (p : List Byte) (s : State) :
    exec (.checksum32 seed p) s = .next (s.answer (valueOfWord (digest32 s.lenw seed p))) := rfl

/-- R151: `CHECKSUM128` answers the digest of its payload. -/
theorem exec_checksum128 (seed : Word64) (p : List Byte) (s : State) :
    exec (.checksum128 seed p) s = .next (s.answer (valueOfPair (digest128 s.lenw seed p))) := rfl

/-- R85 on a payload the port can carry. -/
theorem digest32_of_length_lt {w : LenWidth} {p : List Byte} (h : p.length < 2 ^ w.bits) (seed : Word32) :
    digest32 w seed p =
      fin32 (tail32 (bmix32 seed p).1 (p.drop (4 * (p.length / 4)))) (BitVec.ofNat 64 p.length) := by
  rw [digest32, slice_to_length, lenOperand_eq w p h]
  rfl

/-- R107 on a payload the port can carry. -/
theorem digest128_of_length_lt {w : LenWidth} {p : List Byte} (h : p.length < 2 ^ w.bits) (seed : Word64) :
    digest128 w seed p =
      fin128 (tail128 (bmix128 (seed, seed) p).1 (p.drop (16 * (p.length / 16)))) (BitVec.ofNat 64 p.length) := by
  rw [digest128, slice_to_length, lenOperand_eq w p h]
  rfl

/-- Settles O25: `CHECKSUM` answers `digest32` or `digest128`, which on a payload the port can carry are R150's and
R151's computation. -/
theorem checksumReturnsTheDigestAndTouchesNothing : Obligations.ChecksumReturnsTheDigestAndTouchesNothing := by
  constructor
  · intro s seed p h
    rw [exec_checksum32, digest32_of_length_lt h]
    rfl
  · rintro s seed p _ h rfl
    rw [exec_checksum128, digest128_of_length_lt h]
    rfl

/-! ## The same digest by streaming -/

/-- The whole state after `CREATE32`, any writes and `SUM32`: the unit holds the concatenation, whose digest is
answered last. -/
theorem execAll_create32_write32_sum32 (s : State) (seed : Word32) (chunks : List (List Byte)) :
    execAll (.create32 seed :: chunks.map .write32 ++ [.sum32]) s = .next (State.answer
      (valueOfWord (digest32 s.lenw seed chunks.flatten)) { s with
        u32 := .holding s.lenw seed (if chunks = [] then .empty else .accumulating) chunks.flatten
        responses := s.responses ++ { status := .ok, value := 0, out := [] } :: chunks.map writeAnswer }) := by
  rw [execAll_append (execAll_create32_write32 s seed chunks), execAll_cons (exec_sum32_created rfl), holding32_digest]
  rfl

/-- The same for `U128`. -/
theorem execAll_create128_write128_sum128 (s : State) (seed : Word64) (chunks : List (List Byte)) :
    execAll (.create128 seed :: chunks.map .write128 ++ [.sum128]) s = .next (State.answer
      (valueOfPair (digest128 s.lenw seed chunks.flatten)) { s with
        u128 := .holding s.lenw seed (if chunks = [] then .empty else .accumulating) chunks.flatten
        responses := s.responses ++ { status := .ok, value := 0, out := [] } :: chunks.map writeAnswer }) := by
  rw [execAll_append (execAll_create128_write128 s seed chunks), execAll_cons (exec_sum128_created rfl),
    holding128_digest]
  rfl

/-- Settles O40: both sequences end with the answer of the payload's digest under the seed, for the same `LENW`. -/
theorem checksumEqualsStreaming : Obligations.ChecksumEqualsStreaming := by
  constructor
  · rintro s s' seed _ chunks hw - rfl
    refine ⟨_, _, _, exec_checksum32 seed _ s, execAll_create32_write32_sum32 s' seed chunks, rfl, ?_, rfl, rfl, rfl⟩
    rw [answer_getLast?, hw]
  · rintro s s' seed _ chunks hw - rfl
    refine ⟨_, _, _, exec_checksum128 seed _ s, execAll_create128_write128_sum128 s' seed chunks, rfl, ?_, rfl, rfl,
      rfl⟩
    rw [answer_getLast?, hw]

/-! ## The same response later -/

/-- R5: `LENW` is a parameter of the engine, which no step changes. -/
theorem step_keeps_lenw {s t : State} (h : step s = .next t) : t.lenw = s.lenw := by
  rcases step_cases s with ⟨_, e⟩ | ⟨rest, _, e⟩ | ⟨c, rest, _, ⟨i, _, _, e⟩ | ⟨_, e⟩ | ⟨_, e⟩ | ⟨_, _, _, e⟩⟩
  · cases e.symm.trans h; rfl
  · cases e.symm.trans h; rfl
  · obtain ⟨hlenw, -, -⟩ := exec_frame (e.symm.trans h)
    exact hlenw
  · cases e.symm.trans h; rfl
  · cases e.symm.trans h
  · cases e.symm.trans h

/-- A run of `n + 1` steps that does not stop is a step and a run of `n`. -/
theorem run_succ_next {n : Nat} {s t : State} (h : Host.Core.run core (n + 1) s = .next t) :
    ∃ s₁, step s = .next s₁ ∧ Host.Core.run core n s₁ = .next t := by
  simp only [Host.Core.run] at h
  split at h
  next s₁ hs => exact ⟨s₁, hs, h⟩
  next => cases h
  next => cases h

theorem run_keeps_lenw {n : Nat} {s t : State} (h : Host.Core.run core n s = .next t) : t.lenw = s.lenw := by
  induction n generalizing s with
  | zero => cases h; rfl
  | succ n ih =>
    obtain ⟨s₁, hstep, hrun⟩ := run_succ_next h
    exact (ih hrun).trans (step_keeps_lenw hstep)

/-- R150, R151: with `LENW` fixed, a `CHECKSUM` command adds one and the same response in every state. -/
theorem exec_checksum_uniform {i : Instr} (hi : i.op = .checksum) (w : LenWidth) :
    ∃ r, ∀ s : State, s.lenw = w → exec i s = .next (s.respond r) := by
  cases i with
  | checksum32 seed p =>
    exact ⟨⟨.ok, valueOfWord (digest32 w seed p), []⟩, fun s hs => hs ▸ exec_checksum32 seed p s⟩
  | checksum128 seed p =>
    exact ⟨⟨.ok, valueOfPair (digest128 w seed p), []⟩, fun s hs => hs ▸ exec_checksum128 seed p s⟩
  | _ => cases hi

/-- Settles O48: a run keeps `LENW`, the only field a checksum's response depends on. -/
theorem checksumResponseIsTheSameLater : Obligations.ChecksumResponseIsTheSameLater := by
  intro i s s' n hi hrun
  obtain ⟨r, hr⟩ := exec_checksum_uniform hi s.lenw
  exact ⟨_, _, r, hr s rfl, hr s' (run_keeps_lenw hrun), rfl, rfl⟩

end Sys2Proof.Machine
end

section
/-! The family `60_exceptions.md`: no command fails on a created unit (R160), an illegal word and an un-created unit
are refused (R161, R162), the idle step (R171, R181), and runs under a careful host (R165, R184). -/

namespace Sys2Proof.Machine

/-! ## What a command answers -/

/-- R160, R162: a command adds one response, whose status is `OK` unless the command is one of the four that need a
created unit and the unit it selects is not created. -/
theorem exec_answers_ok_or_uncreated (i : Instr) (s : State) : ∃ t r, exec i s = .next t ∧
    t.responses = s.responses ++ [r] ∧
    (r.status = .ok ∨ i.op ∈ [Op.write, .reset, .sum, .sumBytes] ∧
      (i.variant = .v32 ∧ s.u32.valid = false ∨ i.variant = .v128 ∧ s.u128.valid = false)) := by
  obtain ⟨t, e, d⟩ := exec_does i s
  cases d with
  | refused32 i h hv ho => exact ⟨_, _, e, rfl, .inr ⟨ho, .inl ⟨hv, h⟩⟩⟩
  | refused128 i h hv ho => exact ⟨_, _, e, rfl, .inr ⟨ho, .inr ⟨hv, h⟩⟩⟩
  | query i ho r hr => exact ⟨_, r, e, rfl, .inl hr⟩
  | _ => exact ⟨_, _, e, rfl, .inl rfl⟩

/-- R132 to R135, R150, R151, R162: a command outside the four that need a created unit is answered `OK` always. -/
theorem exec_answers_ok_of_op {i : Instr} (ho : i.op ∉ [Op.write, .reset, .sum, .sumBytes]) (s : State) :
    ∃ t r, exec i s = .next t ∧ t.responses = s.responses ++ [r] ∧ r.status = .ok := by
  obtain ⟨t, r, e, hr, hst⟩ := exec_answers_ok_or_uncreated i s
  exact ⟨t, r, e, hr, hst.resolve_right fun h => ho h.1⟩

/-- Settles O45: a refusal needs a selected unit that is not created. -/
theorem everyCommandAnswersOnceAndCannotFail : Obligations.EveryCommandAnswersOnceAndCannotFail := by
  intro i s
  obtain ⟨t, r, e, hr, hst⟩ := exec_answers_ok_or_uncreated i s
  refine ⟨t, r, e, hr, fun h32 h128 => hst.resolve_right ?_⟩
  rintro ⟨-, ⟨hv, hun⟩ | ⟨hv, hun⟩⟩
  · exact Bool.eq_false_iff.1 hun (h32 hv)
  · exact Bool.eq_false_iff.1 hun (h128 hv)

/-- Settles O20: the eight refusals are the `valid` check of R120 step 3, and the other eight commands are outside the
four operations that make it. -/
theorem uncreatedUnitsRefuseAndChangeNothing : Obligations.UncreatedUnitsRefuseAndChangeNothing := by
  refine ⟨fun s t p h ht => ?_, fun s t p h ht => ?_, fun s a b p i hi => exec_answers_ok_of_op ?_ s⟩
  · have refused (body : State) : ifCreated32 s body = .next t := ht ▸ ifCreated32_refused body h
    exact ⟨refused _, refused _, refused _, refused _⟩
  · have refused (body : State) : ifCreated128 s body = .next t := ht ▸ ifCreated128_refused body h
    exact ⟨refused _, refused _, refused _, refused _⟩
  · simp only [List.mem_cons, List.not_mem_nil, or_false] at hi
    rcases hi with rfl | rfl | rfl | rfl | rfl | rfl | rfl | rfl <;> simp [Instr.op]

/-! ## Idle steps and illegal words -/

/-- Settles O49, by the first case of `step_cases`. -/
theorem idleEngineKeepsItsState : Obligations.IdleEngineKeepsItsState := by
  intro s hin
  rcases step_cases s with ⟨_, e⟩ | ⟨rest, h, _⟩ | ⟨c, rest, h, _⟩
  · exact e
  · cases hin.symm.trans h
  · cases hin.symm.trans h

/-- R66: a word outside the table of R65 does not decode, for one of the two reasons that are about the word. -/
theorem decodeWord_of_illegal {w : Byte} (h : w ∉ [0x10#8, 0x11#8, 0x20#8, 0x21#8, 0x30#8, 0x31#8, 0x40#8, 0x41#8,
      0x50#8, 0x51#8, 0x60#8, 0x61#8, 0x70#8, 0x71#8, 0x80#8, 0x81#8]) :
    decodeWord w = .error .reservedBits ∨ decodeWord w = .error .unassignedOp := by
  rcases hw : decodeWord w with e | ⟨op, v⟩
  · rcases decodeWord_error hw with rfl | rfl
    · exact .inl rfl
    · exact .inr rfl
  · exact absurd (mem_legalWords_iff.2 ⟨op, v, eq_encodeWord hw⟩) h

theorem decode_of_word_error {c : Command} {e : DecodeError} (h : decodeWord c.cmd = .error e) :
    decode c = .error e := by
  simp [decode, h]

theorem beatsAfter_of_word_error {c : Command} {e : DecodeError} (h : decodeWord c.cmd = .error e) :
    beatsAfter (headerOf c) = 0 := by
  simp [beatsAfter, headerOf, h]

/-- R161: a record with an illegal word at the port is taken off and refused. -/
theorem step_illegal {s : State} {c : Command} {rest : List HostEvent} (hin : s.inbox = .command c :: rest)
    (h : decode c = .error .reservedBits ∨ decode c = .error .unassignedOp) :
    step s = .next (State.refuse .illegalCmd { s with inbox := rest }) := by
  have hdrop : s.dropEvent = { s with inbox := rest } := by rw [State.dropEvent, hin]; rfl
  rcases h with h | h <;> simp [step, accept, acceptCommand, hin, h, hdrop]

/-- Settles O5: the word does not decode, so the record is refused and its header takes no beats. -/
theorem illegalWordsAreAnsweredAndChangeNothing : Obligations.IllegalWordsAreAnsweredAndChangeNothing := by
  intro s c rest hin hcmd
  have hw := decodeWord_of_illegal hcmd
  exact ⟨step_illegal hin (hw.imp decode_of_word_error decode_of_word_error),
    hw.elim beatsAfter_of_word_error beatsAfter_of_word_error⟩

/-! ## Runs under a careful host -/

theorem careful_command_iff {w : LenWidth} {c : Command} :
    (HostEvent.command c).careful w = true ↔ ∃ i, decode c = .ok i ∧ i.wellFormed w = true := by
  rcases h : decode c with e | i <;> simp [HostEvent.careful, h]

theorem noRefusalRecorded_append {s t : State} {r : Response} (hs : noRefusalRecorded s = true)
    (hr : r.status = .ok) (ht : t.responses = s.responses ++ [r]) : noRefusalRecorded t = true := by
  rw [noRefusalRecorded, ht, List.all_append]
  exact Bool.and_eq_true_iff.2 ⟨hs, by simp [hr]⟩

/-- R160: a command keeps a state safe, since both units are created. -/
theorem exec_keeps_safe (i : Instr) {s : State} (h : s.Safe) : ∃ t, exec i s = .next t ∧ t.Safe := by
  obtain ⟨h32, h128, hresp, hbox⟩ := h
  obtain ⟨t, r, e, hr, hok⟩ := everyCommandAnswersOnceAndCannotFail i s
  obtain ⟨keep32, keep128⟩ := exec_keeps_valid e
  obtain ⟨hlenw, hinbox, -⟩ := exec_frame e
  exact ⟨t, e, keep32 h32, keep128 h128,
    noRefusalRecorded_append hresp (hok (fun _ => h32) fun _ => h128) hr,
    by rwa [hlenw, hinbox]⟩

/-- A step from a safe state answers a safe state: the engine is idle, or the record at the port is a command that the
port can carry. -/
theorem step_keeps_safe {s : State} (h : s.Safe) : ∃ t, step s = .next t ∧ t.Safe := by
  have ⟨h32, h128, hresp, hbox⟩ := h
  rcases hin : s.inbox with _ | ⟨c | _, rest⟩
  · exact ⟨s, idleEngineKeepsItsState s hin, h⟩
  · obtain ⟨hfirst, hrest⟩ := List.forall_mem_cons.1 (hin ▸ hbox)
    obtain ⟨i, hdec, hwf⟩ := careful_command_iff.1 hfirst
    rw [stepRunsTheDecodedInstruction s c rest i hin hdec hwf]
    exact exec_keeps_safe i ⟨h32, h128, hresp, hrest⟩
  · obtain ⟨hfirst, -⟩ := List.forall_mem_cons.1 (hin ▸ hbox)
    cases hfirst

/-- If every step from a state with `P` answers a state with `P`, so does every run. -/
theorem run_keeps {P : State → Prop} (hstep : ∀ s, P s → ∃ t, step s = .next t ∧ P t) (n : Nat) {s : State}
    (h : P s) : ∃ t, Host.Core.run core n s = .next t ∧ P t := by
  induction n generalizing s with
  | zero => exact ⟨s, rfl, h⟩
  | succ n ih =>
    obtain ⟨s₁, e, h₁⟩ := hstep s h
    rw [run_next e]
    exact ih h₁

/-- Settles O53: safety is kept by every step. -/
theorem safeRunsNeverStopAndRecordNoRefusal : Obligations.SafeRunsNeverStopAndRecordNoRefusal :=
  fun n _ => run_keeps (P := State.Safe) (fun _ => step_keeps_safe) n

end Sys2Proof.Machine
end

section
/-! The family `70_reset_and_hazards.md`: the reset state and the hardware reset input (R30, R180 to R183), and the
steps that stop because the host breaks the protocol (R64, R186). -/

namespace Sys2Proof.Machine

/-! ## Steps that stop -/

/-- R64, R186: the record has a payload that the decoder rejects or that the port of an engine cannot carry. -/
def PayloadRejected (w : LenWidth) (c : Command) : Prop :=
  decode c = .error .payloadLengthMismatch ∨ ∃ i, decode c = .ok i ∧ i.wellFormed w = false

/-- A step answers a next state, or the record at the port has a rejected payload and the step faults. -/
theorem step_next_or_rejected (s : State) : (∃ t, step s = .next t) ∨
    (∃ c rest, s.inbox = .command c :: rest ∧ PayloadRejected s.lenw c) ∧ ∃ f, step s = .fault f := by
  rcases step_cases s with ⟨_, e⟩ | ⟨rest, _, e⟩ |
    ⟨c, rest, hin, ⟨i, _, _, e⟩ | ⟨_, e⟩ | ⟨hdec, e⟩ | ⟨i, hdec, hw, e⟩⟩
  · exact .inl ⟨_, e⟩
  · exact .inl ⟨_, e⟩
  · obtain ⟨t, ht, -⟩ := exec_does i { s with inbox := rest }
    exact .inl ⟨t, e.trans ht⟩
  · exact .inl ⟨_, e⟩
  · exact .inr ⟨⟨c, rest, hin, .inl hdec⟩, _, e⟩
  · exact .inr ⟨⟨c, rest, hin, .inr ⟨i, hdec, hw⟩⟩, _, e⟩

/-- R162, R167: no step answers a refusal; a refused command is a next state. -/
theorem step_ne_refused (s : State) (r : Refusal) : step s ≠ .refused r := by
  rcases step_next_or_rejected s with ⟨t, e⟩ | ⟨-, f, e⟩ <;> simp [e]

theorem step_fault_iff {s : State} : (∃ f, step s = .fault f) ↔
    ∃ c rest, s.inbox = .command c :: rest ∧ PayloadRejected s.lenw c := by
  constructor
  · rintro ⟨f, h⟩
    rcases step_next_or_rejected s with ⟨t, e⟩ | ⟨hrej, -⟩
    · cases e.symm.trans h
    · exact hrej
  · rintro ⟨c, rest, hin, hdec | ⟨i, hdec, hw⟩⟩
    · exact ⟨.payloadLengthMismatch, by simp [step, accept, acceptCommand, hin, hdec]⟩
    · exact ⟨.lengthBeyondPort, by simp [step, accept, acceptCommand, hin, hdec, hw]⟩

/-- R63: a command whose format reads no payload carries none. -/
theorem assemble_payload_eq_nil {op : Op} (h : op.format.readsPayload = false) (v : Variant) (c : Command) :
    (assemble op v c).payload = [] := by
  cases op with
  | write | sumBytes | checksum => cases h
  | _ => cases v <;> rfl

/-- R63, R64: a payload is rejected if the word reads one and it does not have `len` bytes or is too long. -/
theorem payloadRejected_iff {w : LenWidth} {c : Command} : PayloadRejected w c ↔
    c.cmd ∈ [0x20#8, 0x21#8, 0x50#8, 0x51#8, 0x80#8, 0x81#8] ∧
      (c.payload.length ≠ c.len.toNat ∨ 2 ^ w.bits ≤ c.payload.length) := by
  unfold PayloadRejected
  rcases hw : decodeWord c.cmd with e | ⟨op, v⟩
  · have hmem : c.cmd ∉ [0x20#8, 0x21#8, 0x50#8, 0x51#8, 0x80#8, 0x81#8] := fun h => by
      obtain ⟨r, hr⟩ := decodeWord_of_mem_payload h
      cases hw.symm.trans hr
    rcases decodeWord_error hw with rfl | rfl <;> simp [decode_of_word_error hw, hmem]
  · rw [decode_of_word hw, eq_encodeWord hw, encodeWord_mem_payload_iff]
    cases hr : op.format.readsPayload with
    | false => simp [Instr.wellFormed, assemble_payload_eq_nil hr]
    | true =>
      by_cases hlen : c.payload.length = c.len.toNat <;>
        simp [Instr.wellFormed, Command.payloadMatches, assemble_payload hr, hlen]

/-- Settles O50, by `step_fault_iff` and `payloadRejected_iff`. -/
theorem stepStopsExactlyWhereTheProtocolIsBroken : Obligations.StepStopsExactlyWhereTheProtocolIsBroken :=
  ⟨step_ne_refused, fun _ => by simp only [step_fault_iff, payloadRejected_iff]⟩

/-! ## Reset and the hardware reset -/

/-- Settles O1: the fields of the reset state. -/
theorem resetLeavesBothUnitsUncreated : Obligations.ResetLeavesBothUnitsUncreated :=
  ⟨rfl, rfl, rfl, rfl, rfl⟩

/-- R180: the hardware reset input at the port is taken off and un-creates both units. -/
theorem step_hardwareReset {s : State} {rest : List HostEvent} (hin : s.inbox = .hardwareReset :: rest) :
    step s = .next (State.hardwareReset { s with inbox := rest }) := by
  cases s
  cases hin
  rfl

/-- Settles O2, by the fields of `State.hardwareReset`. -/
theorem hardwareResetUncreatesBothUnits : Obligations.HardwareResetUncreatesBothUnits :=
  fun _ _ hin => ⟨_, step_hardwareReset hin, rfl, rfl, rfl, rfl, rfl⟩

/-- R180, R183: a hardware reset reads neither unit. -/
theorem hardwareReset_with_units (s : State) (u : Unit32) (v : Unit128) :
    State.hardwareReset { s with u32 := u, u128 := v } = s.hardwareReset := rfl

/-- Settles O3: after the first step the two runs are in the same state. -/
theorem hardwareResetForgetsTheUnits : Obligations.HardwareResetForgetsTheUnits := by
  intro s u v rest n
  rw [run_next (step_hardwareReset rfl), run_next (step_hardwareReset rfl)]
  exact congrArg (Host.Core.run core n) (hardwareReset_with_units { s with inbox := rest } u v)

end Sys2Proof.Machine
end
